-- ==== Sys2Proof/Word.lean ====
section
/-! DEFINITION. The words of the block: bytes, frames, the receive buffer, 32-bit identifiers
(00_scope.md R8, R9; 10_state.md R20). All values are unsigned. -/

namespace Sys2Proof

/-- FRAME_LEN of R6, fixed to 14 by R7; it is a size in a type (notes/assumptions/6.md). -/
abbrev frameLen : Nat := 14

/-- A byte: bit 7 is its most significant bit (R8). -/
abbrev Byte := BitVec 8

/-- A 32-bit node identifier or base ID (R75, R28). -/
abbrev NodeId := BitVec 32

/-- A frame F[0..13]; F[0] is the first byte on the wire (R9, R54). -/
abbrev Frame := Vector Byte frameLen

/-- The receive buffer x[0..RXBUF_CAP-1], x[0] first (R20, R22). RXBUF_CAP is a row of P, so that the list
has RXBUF_CAP entries is an invariant and no part of the type (`Safety.bufferSized`;
notes/assumptions/6.md). -/
abbrev RxBuf := List Byte

end Sys2Proof
end

