-- ==== Sys2Proof/Config.lean ====
section
/-! DEFINITION. The configuration record P of 00_scope.md R6 as a type, and the free values: what
the spec leaves unspecified (10_state.md R36) or uninterpreted (93_implementation_defined.md U7).
The values P takes by default, and the check of R7, stand in Machine/Defaults.lean. -/

namespace Sys2Proof

/-- The ten names of ACK_TABLE (30_encoding.md R84), in its order. -/
inductive AckName where
  | idBaseOk | notWantedAck | notAck | duplicateId | errHeaderSeq
  | errLength | errChecksum | errType | errTxIdrange | errIdrange
deriving DecidableEq, Repr

/-- ACK_TABLE (R84): the code of each of the ten names. -/
structure AckTable where
  idBaseOk : Byte
  notWantedAck : Byte
  notAck : Byte
  duplicateId : Byte
  errHeaderSeq : Byte
  errLength : Byte
  errChecksum : Byte
  errType : Byte
  errTxIdrange : Byte
  errIdrange : Byte
deriving DecidableEq, Repr

/-- The configuration record P (R6), one field per row of its table but for FRAME_LEN (R7 fixes it to 14,
a size of a type in Word.lean) and HDR_BUILD (`Machine.hdrBuild`, since R6 defines it as
`TAG_TXCMD | LEN_FIXED`). -/
structure Params where
  /-- LEN_FIXED: length field of every built frame. -/
  lenFixed : Byte
  /-- LEN_MASK: mask the receiver applies to the header byte. -/
  lenMask : Byte
  /-- LEN_BIAS: added to the masked header to get the wanted total length. -/
  lenBias : Nat
  /-- BASE_SPAN: size of the identifier window above the base ID. -/
  baseSpan : Nat
  /-- UNIT_LIMIT: units accepted are those below it. -/
  unitLimit : Nat
  /-- HDR_ACK: header byte of the acknowledgement shape. -/
  hdrAck : Byte
  /-- STATUS_RELEASE: status byte of the release frame. -/
  statusRelease : Byte
  /-- LEVEL_MAX: clamp of the dim level. -/
  levelMax : Byte
  /-- SYNC1: first synchronisation byte. -/
  sync1 : Byte
  /-- SYNC2: second synchronisation byte. -/
  sync2 : Byte
  /-- TAG_TXCMD: the transmit-command-telegram tag. -/
  tagTxcmd : Byte
  /-- HDR_RADIO_TX: header byte of the frames SWITCH and TEACH build (R183). -/
  hdrRadioTx : Byte
  /-- ORG_RD_IDBASE: telegram type of the base-ID query. -/
  orgRdIdbase : Byte
  /-- ORG_RD_SW_VER: telegram type of the software-version query. -/
  orgRdSwVer : Byte
  /-- ORG_RESET: telegram type of the reset command. -/
  orgReset : Byte
  /-- ORG_INF_IDBASE: telegram type of the base-ID info response. -/
  orgInfIdbase : Byte
  /-- ORG_RPS: telegram type of the switch/rocker telegram. -/
  orgRps : Byte
  /-- ORG_4BS: telegram type of the 4-byte-data telegram. -/
  org4bs : Byte
  /-- ACK_TABLE. -/
  ackTable : AckTable
  /-- ACK_SWALLOW_UNKNOWN (R153, D6). -/
  ackSwallowUnknown : Bool
  /-- RXBUF_CAP: bytes in the receive buffer; at least LEN_MASK + LEN_BIAS and FRAME_LEN (R7). -/
  rxbufCap : Nat
  /-- STATUS_PRESS: status byte of the press frame. -/
  statusPress : Byte
  /-- STATUS_4BS: status byte of the dim and teach-in frames. -/
  status4bs : Byte
  /-- STATUS_NU_MASK: the status bit that marks an RPS N-message (R80). -/
  statusNuMask : Byte
  /-- DIM_MARKER: DB3 of dim and teach-in frames. -/
  dimMarker : Byte
  /-- DIM_RAMP: DB1 of the dim frame. -/
  dimRamp : Byte
  /-- DIM_ON: DB0 of the dim frame when the level is not zero. -/
  dimOn : Byte
  /-- DIM_OFF: DB0 of the dim frame when the level is zero. -/
  dimOff : Byte
  /-- TXQ_DEPTH: capacity of the outbound queue in frames, `none` for unbounded (D23). -/
  txqDepth : Option Nat
deriving DecidableEq, Repr

/-- FREE VALUE (DESIGN CHOICE, notes/assumptions/4.md): what register x[i] holds after the n-th
power-on reset. R36: "unspecified" means any value; nothing constrains it. -/
opaque Config.porByte (n i : Nat) : Byte

/-- FREE VALUE (DESIGN CHOICE, notes/assumptions/4.md): what WANTED holds after the n-th power-on
reset (R27, R36). -/
opaque Config.porWanted (n : Nat) : BitVec 5

/-- FREE FUNCTION (notes/assumptions/19.md): RENDER of 40_codec.md R118 (b); U7 of
93_implementation_defined.md calls it an uninterpreted function from frames to text. -/
opaque Config.render (f : Frame) : String

/-- RXBUF after the n-th power-on reset: RXBUF_CAP free bytes (R36). -/
def Config.porRxbuf (n cap : Nat) : RxBuf := (List.range cap).map (Config.porByte n)

end Sys2Proof
end

