-- ==== Sys2Proof/Machine/Defaults.lean ====
section
/-! DEFINITION. The values the configuration record P takes (00_scope.md R6, column "value";
30_encoding.md R84) and the constraints on it (R7, R83, R84). -/

namespace Sys2Proof.Machine

/-- ACK_TABLE with the default codes of R84 (UNVERIFIED defaults, notes/assumptions/2.md). -/
def defaultAckTable : AckTable :=
  { idBaseOk := 0x58, notWantedAck := 0x28, notAck := 0x29, duplicateId := 0x0C,
    errHeaderSeq := 0x08, errLength := 0x09, errChecksum := 0x0A, errType := 0x0B,
    errTxIdrange := 0x22, errIdrange := 0x1A }

/-- P with the values of R6 (UNVERIFIED defaults, notes/assumptions/2.md). -/
def defaultParams : Params :=
  { lenFixed := 0x0B, lenMask := 0x0F, lenBias := 3, baseSpan := 128, unitLimit := 10,
    hdrAck := 0x8B, statusRelease := 0x20, levelMax := 100,
    sync1 := 0xA5, sync2 := 0x5A, tagTxcmd := 0x80, hdrRadioTx := 0x8B,
    orgRdIdbase := 0x58, orgRdSwVer := 0x4B, orgReset := 0x0A, orgInfIdbase := 0x98,
    orgRps := 0x05, org4bs := 0x07,
    ackTable := defaultAckTable, ackSwallowUnknown := true, rxbufCap := 18,
    statusPress := 0x30, status4bs := 0x00, statusNuMask := 0x10,
    dimMarker := 0x02, dimRamp := 0x01, dimOn := 0x09, dimOff := 0x08,
    txqDepth := none }

/-- HDR_BUILD = TAG_TXCMD | LEN_FIXED (R6, R112). -/
def hdrBuild (p : Params) : Byte := p.tagTxcmd ||| p.lenFixed

/-- The codes of ACK_TABLE in the order of R84. -/
def ackCodes (t : AckTable) : List Byte :=
  [t.idBaseOk, t.notWantedAck, t.notAck, t.duplicateId, t.errHeaderSeq,
   t.errLength, t.errChecksum, t.errType, t.errTxIdrange, t.errIdrange]

/-- The constraints of R7, with FRAME_LEN the size of Word.lean. -/
def lengthsOk (p : Params) : Bool :=
  decide (p.lenFixed.toNat + p.lenBias = frameLen) &&
  decide (p.lenMask.toNat + p.lenBias ≤ p.rxbufCap) &&
  decide (frameLen ≤ p.rxbufCap) &&
  decide (hdrBuild p &&& p.lenMask = p.lenFixed) &&
  decide (p.hdrRadioTx &&& p.lenMask = p.lenFixed) &&
  decide (p.hdrAck &&& p.lenMask = p.lenFixed)

/-- R83: the three codes dispatch tells apart differ; R84: the ten codes differ. -/
def codesOk (p : Params) : Bool :=
  decide [p.orgInfIdbase, p.orgRps, p.org4bs].Nodup && decide (ackCodes p.ackTable).Nodup

/-- "A configuration that breaks one of them is refused by the model" (R7); with it the
"must be pairwise distinct" of R83 and R84 (notes/assumptions/16.md). -/
def paramsOk (p : Params) : Bool := lengthsOk p && codesOk p

end Sys2Proof.Machine
end

