-- ==== Sys2Proof/Machine/Codec.lean ====
section
/-! DEFINITION. The Frame Codec: frame fields, assemblies, checksum, construction, sealing,
classification (30_encoding.md R70 to R84, 40_codec.md R110 to R114, 42_dispatch.md R150).
Pure functions: none of them touches State. -/

namespace Sys2Proof.Machine

/-! ## Fields of the BASE view (R70) and of the header byte (R71) -/

/-- F.HDR (offset 2). -/
def hdrOf (f : Frame) : Byte := f[2]
/-- F.ORG (offset 3). -/
def orgOf (f : Frame) : Byte := f[3]
/-- F.STATUS (offset 12). -/
def statusOf (f : Frame) : Byte := f[12]
/-- SEQ = HDR[7:5] (R71). -/
def seqOf (h : Byte) : BitVec 3 := h.extractLsb' 5 3
/-- LENGTH = HDR[4:0] (R71). -/
def lengthOf (h : Byte) : BitVec 5 := h.extractLsb' 0 5

/-! ## Assemblies and their inverse (20_memory.md R52; R75 to R77) -/

/-- MemRead(A:o, n) of R10 on a byte list: the n bytes from offset o, the first most significant. -/
def memRead (bytes : List Byte) (o n : Nat) : Nat :=
  ((bytes.drop o).take n).foldl (fun acc b => acc * 256 + b.toNat) 0

/-- NODE_ID (R75): offsets 8..11, big-endian. -/
def nodeId (f : Frame) : NodeId := f[8] ++ f[9] ++ f[10] ++ f[11]

/-- BASEVAL (R76): offsets 4..7, big-endian. -/
def baseVal (f : Frame) : NodeId := f[4] ++ f[5] ++ f[6] ++ f[7]

/-- CNT24 (R77): offsets 4..6, big-endian; DB0 takes no part. -/
def cnt24 (f : Frame) : BitVec 24 := f[4] ++ f[5] ++ f[6]

/-- MemWrite(T:8, 4, id) (R52): the disassembly of an identifier into offsets 8..11. -/
def writeId (f : Frame) (id : NodeId) : Frame :=
  (((f.set 8 (id.extractLsb' 24 8)).set 9 (id.extractLsb' 16 8)).set 10 (id.extractLsb' 8 8)).set 11
    (id.extractLsb' 0 8)

/-- One hexadecimal digit, A to F in upper case (R75). -/
def hexDigit (d : BitVec 4) : Char :=
  ['0', '1', '2', '3', '4', '5', '6', '7', '8', '9', 'A', 'B', 'C', 'D', 'E', 'F'].getD d.toNat '0'

/-- The eight digits of an identifier, most significant first, zero-padded (R75). -/
def hexDigits (v : NodeId) : List Char :=
  [7, 6, 5, 4, 3, 2, 1, 0].map fun k => hexDigit (v.extractLsb' (4 * k) 4)

/-- NODE_TEXT (R75): the text form of the node identifier. -/
def nodeText (f : Frame) : String := String.ofList (hexDigits (nodeId f))

/-! ## Wanted length (R78) -/

/-- WANTED = (h & LEN_MASK) + LEN_BIAS (R78), reduced to the 5 bits R27 gives its destination, as R8 says.
No bit is lost while LEN_MASK + LEN_BIAS is below 32 (notes/assumptions/28.md). -/
def wantedLen (p : Params) (h : Byte) : BitVec 5 := BitVec.ofNat 5 ((h &&& p.lenMask).toNat + p.lenBias)

/-! ## The RPS data byte (R79), the status bit (R80), the teach-in fields (R81) -/

/-- RPS_PACK(rid, ud, pr) = (rid << 6) | (ud << 5) | (pr << 4), the three low fields zero (R79). -/
def rpsPack (rid : BitVec 2) (ud pr : BitVec 1) : Byte :=
  (rid.setWidth 8 <<< 6) ||| (ud.setWidth 8 <<< 5) ||| (pr.setWidth 8 <<< 4)

/-- The six fields of an RPS data byte (R79). -/
structure RpsFields where
  rid : BitVec 2
  ud : BitVec 1
  pr : BitVec 1
  srid : BitVec 2
  sud : BitVec 1
  sa : BitVec 1
deriving DecidableEq, Repr

/-- RPS_UNPACK (R79). -/
def rpsUnpack (d : Byte) : RpsFields :=
  { rid := d.extractLsb' 6 2, ud := d.extractLsb' 5 1, pr := d.extractLsb' 4 1,
    srid := d.extractLsb' 2 2, sud := d.extractLsb' 1 1, sa := d.extractLsb' 0 1 }

/-- The status byte marks an N-message (R80): the bit STATUS_NU_MASK is set. No operation reads it. -/
def isNMessage (p : Params) (f : Frame) : Bool := decide (statusOf f &&& p.statusNuMask ≠ 0)

/-- The 4BS teach-in fields (R81); no operation of the block reads them (notes/assumptions/23.md). -/
structure TeachFields where
  profile : BitVec 6
  subtype : BitVec 7
  manuf : BitVec 11
  lrn : BitVec 1
deriving DecidableEq, Repr

/-- PROFILE = DB3[7:2], SUBTYPE = DB3[1:0] ++ DB2[7:3], MANUF = DB2[2:0] ++ DB1, LRN = DB0[3] (R81). -/
def teachUnpack (f : Frame) : TeachFields :=
  { profile := f[4].extractLsb' 2 6,
    subtype := f[4].extractLsb' 0 2 ++ f[5].extractLsb' 3 5,
    manuf := f[5].extractLsb' 0 3 ++ f[6],
    lrn := f[7].extractLsb' 3 1 }

/-! ## Checksum, construction, sealing (R110 to R114) -/

/-- CHK (R110): the sum of offsets 2..12 modulo 256, of any byte array that has them. -/
def chk {n : Nat} (a : Vector Byte n) (h : 13 ≤ n := by decide) : Byte :=
  a[2]'(by omega) + a[3]'(by omega) + a[4]'(by omega) + a[5]'(by omega) + a[6]'(by omega) +
  a[7]'(by omega) + a[8]'(by omega) + a[9]'(by omega) + a[10]'(by omega) + a[11]'(by omega) +
  a[12]'(by omega)

/-- SEAL (R113): the checksum byte recomputed, all other bytes unchanged. -/
def sealFrame (t : Frame) : Frame := t.set 13 (chk t)

/-- VALID (R114). -/
def valid (f : Frame) : Bool := decide (f[13] = chk f)

/-- BUILD_BASE (R112). -/
def buildBase (p : Params) (t : Byte) : Frame :=
  sealFrame (((((Vector.replicate frameLen 0).set 0 p.sync1).set 1 p.sync2).set 2 (hdrBuild p)).set 3 t)

/-! ## Classes of a delivered frame (R86, R150) -/

/-- What an acknowledgement-shaped frame says: a name of ACK_TABLE, or UNKNOWN_CODE (R31). -/
inductive AckCode where
  | known (n : AckName)
  | unknownCode
deriving DecidableEq, Repr

/-- The classes of R86. -/
inductive FrameClass where
  | ack (n : AckCode)
  | baseId
  | rps
  | fourBs
  | other
deriving DecidableEq, Repr

/-- The row of ACK_TABLE with a given code, the rows tried in the order of R84. -/
def ackLookup (t : AckTable) (c : Byte) : Option AckName :=
  if c = t.idBaseOk then some .idBaseOk
  else if c = t.notWantedAck then some .notWantedAck
  else if c = t.notAck then some .notAck
  else if c = t.duplicateId then some .duplicateId
  else if c = t.errHeaderSeq then some .errHeaderSeq
  else if c = t.errLength then some .errLength
  else if c = t.errChecksum then some .errChecksum
  else if c = t.errType then some .errType
  else if c = t.errTxIdrange then some .errTxIdrange
  else if c = t.errIdrange then some .errIdrange
  else none

/-- The telegram-type tests of R150, made after the acknowledgement test. -/
def classifyType (p : Params) (f : Frame) : FrameClass :=
  if orgOf f = p.orgInfIdbase then .baseId
  else if orgOf f = p.orgRps then .rps
  else if orgOf f = p.org4bs then .fourBs
  else .other

/-- CLASSIFY (R150): the acknowledgement shape (R151) first, then the telegram type. -/
def classify (p : Params) (f : Frame) : FrameClass :=
  if hdrOf f = p.hdrAck then
    match ackLookup p.ackTable (orgOf f) with
    | some n => .ack (.known n)
    | none => if p.ackSwallowUnknown then .ack .unknownCode else classifyType p f
  else classifyType p f

/-! ## The receive buffer read as an array (R10, R22) -/

/-- `x[i]` (R10): register i of the receive buffer. R7 and R137 keep i below RXBUF_CAP; a state without
that register is one no run reaches (notes/assumptions/17.md). -/
def reg (x : RxBuf) (i : Nat) : Byte := x.getD i 0

/-- The delivered frame of R138: the fourteen bytes x[0..13], whatever WANTED was. -/
def frameOf (x : RxBuf) : Frame := Vector.ofFn fun i : Fin frameLen => reg x i.val

/-- `CHK(RXBUF)` (R10, R110, R136): offsets 2..12 of the buffer, which the frame of R138 has at the same
offsets. -/
def bufChk (x : RxBuf) : Byte := chk (frameOf x)

end Sys2Proof.Machine
end

