-- ==== Sys2Proof/Syntax.lean ====
section
/-! DEFINITION. The operations of the block as syntax: one constructor per row of
spec/opcode_table.json (30_encoding.md R90, R91, R96), the words they are fetched as, and the
ports and agents of 10_state.md R32 and 20_memory.md R56. -/

namespace Sys2Proof

/-- The three commands of SWITCH (R92); the fourth code, 3, is reserved (R93) and has no
constructor. -/
inductive Cmd where
  | off | on | setLevel
deriving DecidableEq, Repr

/-- One constructor per row of spec/opcode_table.json. The frame rows are performed as
notes/assumptions/10.md and notes/assumptions/11.md say. -/
inductive Instr where
  /-- F_RD_IDBASE: built frame of the base-ID query (R85, R174). -/
  | fRdIdbase
  /-- F_RD_SW_VER: built frame of the software-version query (R85, R175). -/
  | fRdSwVer
  /-- F_RESET: built frame of the reset command (R85, R176). -/
  | fReset
  /-- F_RPS_PRESS: built press frame (R85, R178). -/
  | fRpsPress (rid : BitVec 2) (ud : BitVec 1) (id : NodeId)
  /-- F_RPS_RELEASE: built release frame (R85, R178). -/
  | fRpsRelease (rid : BitVec 2) (id : NodeId)
  /-- F_4BS_DIM: built dim frame with level pct (R85, R179). -/
  | f4bsDim (pct : Byte) (id : NodeId)
  /-- F_4BS_TEACH: built teach-in frame (R85, R181). -/
  | f4bsTeach (id : NodeId)
  /-- RX_ACK_ID_BASE_OK: received acknowledgement frame, code of id-base-ok (R86, R152). -/
  | rxAckIdBaseOk (f : Frame)
  /-- RX_ACK_NOT_WANTED_ACK (R86, R152). -/
  | rxAckNotWantedAck (f : Frame)
  /-- RX_ACK_NOT_ACK (R86, R152). -/
  | rxAckNotAck (f : Frame)
  /-- RX_ACK_DUPLICATE_ID (R86, R152). -/
  | rxAckDuplicateId (f : Frame)
  /-- RX_ACK_ERR_HEADER_SEQ (R86, R152). -/
  | rxAckErrHeaderSeq (f : Frame)
  /-- RX_ACK_ERR_LENGTH (R86, R152). -/
  | rxAckErrLength (f : Frame)
  /-- RX_ACK_ERR_CHECKSUM (R86, R152). -/
  | rxAckErrChecksum (f : Frame)
  /-- RX_ACK_ERR_TYPE (R86, R152). -/
  | rxAckErrType (f : Frame)
  /-- RX_ACK_ERR_TX_IDRANGE (R86, R152). -/
  | rxAckErrTxIdrange (f : Frame)
  /-- RX_ACK_ERR_IDRANGE (R86, R152). -/
  | rxAckErrIdrange (f : Frame)
  /-- RX_ACK_UNKNOWN: acknowledgement shape, code in no row of ACK_TABLE (R86, R153). -/
  | rxAckUnknown (f : Frame)
  /-- RX_BASEID: received base-ID info frame (R86, R155). -/
  | rxBaseid (f : Frame)
  /-- RX_RPS: received switch/rocker frame (R86, R156). -/
  | rxRps (f : Frame)
  /-- RX_4BS: received 4-byte-data frame (R86, R156). -/
  | rx4bs (f : Frame)
  /-- RX_OTHER: received frame of any other telegram type (R86, R157). -/
  | rxOther (f : Frame)
  /-- POR: power-on reset (R240). -/
  | por
  /-- REOPEN: connection reset (R141, R241). -/
  | reopen
  /-- RXB: one received byte (R130). -/
  | rxb (b : Byte)
  /-- DRAIN: remove and hand out the head of the outbound queue (R202). -/
  | drain
  /-- QBASE: base-ID query (R174). -/
  | qbase
  /-- QVER: software-version query (R175). -/
  | qver
  /-- QRESET: reset command to the transceiver (R176). -/
  | qreset
  /-- SWITCH: switch or dim command (R177 to R180), operands of R92 in the order of R90. -/
  | switch (id : NodeId) (unit : Byte) (cmd : Cmd) (level : Byte) (isDimmer : Bool) (lastLevel : Byte)
  /-- TEACH: dimmer teach-in (R181). -/
  | teach (id : NodeId)
deriving DecidableEq, Repr

/-- A word as it waits to be fetched: a 68-bit event word of R91, or a 112-bit frame word of R9
with its direction (the "direction" of R96: a built and a received row may match one word, R158). -/
inductive FetchWord where
  | event (w : BitVec 68)
  | built (w : BitVec 112)
  | received (w : BitVec 112)
deriving DecidableEq, Repr

/-- The five abstract ports of R32. -/
inductive Port where
  /-- RX: one byte per RXB. -/
  | rx
  /-- CMD: one request and its result. -/
  | cmd
  /-- TXD: DRAIN and the frame it returns. -/
  | txd
  /-- CTL: POR and REOPEN. -/
  | ctl
  /-- EVT: the outcome events that are no operation's result. -/
  | evt
deriving DecidableEq, Repr

/-- The column "direction" of R32. -/
inductive PortDirection where
  | inward | inwardWithResult | outwardOnRequest | outward
deriving DecidableEq, Repr

/-- The three agents of R56. -/
inductive Agent where
  | receive | command | transport
deriving DecidableEq, Repr

/-- The direction of a port (R32). -/
def Port.direction : Port → PortDirection
  | .rx => .inward
  | .cmd => .inwardWithResult
  | .txd => .outwardOnRequest
  | .ctl => .inward
  | .evt => .outward

/-- The agent that starts the operations of a port (R32, R56); EVT carries none. -/
def Port.agent : Port → Option Agent
  | .rx => some .receive
  | .cmd => some .command
  | .txd => some .transport
  | .ctl => some .transport
  | .evt => none

/-- The port that carries an operation (R32, R90); the frame rows pass no port: they stand for
what happens inside a command operation or inside an RXB. -/
def Instr.port : Instr → Option Port
  | .por => some .ctl
  | .reopen => some .ctl
  | .rxb _ => some .rx
  | .drain => some .txd
  | .qbase => some .cmd
  | .qver => some .cmd
  | .qreset => some .cmd
  | .switch _ _ _ _ _ _ => some .cmd
  | .teach _ => some .cmd
  | .fRdIdbase => none
  | .fRdSwVer => none
  | .fReset => none
  | .fRpsPress _ _ _ => none
  | .fRpsRelease _ _ => none
  | .f4bsDim _ _ => none
  | .f4bsTeach _ => none
  | .rxAckIdBaseOk _ => none
  | .rxAckNotWantedAck _ => none
  | .rxAckNotAck _ => none
  | .rxAckDuplicateId _ => none
  | .rxAckErrHeaderSeq _ => none
  | .rxAckErrLength _ => none
  | .rxAckErrChecksum _ => none
  | .rxAckErrType _ => none
  | .rxAckErrTxIdrange _ => none
  | .rxAckErrIdrange _ => none
  | .rxAckUnknown _ => none
  | .rxBaseid _ => none
  | .rxRps _ => none
  | .rx4bs _ => none
  | .rxOther _ => none

/-- The agent that issues an operation (R56). A built frame row is a part of a command operation
and a received frame row a part of an RXB, so they count as their agents' (R58, R222). -/
def Instr.agent : Instr → Agent
  | .por => .transport
  | .reopen => .transport
  | .drain => .transport
  | .rxb _ => .receive
  | .qbase => .command
  | .qver => .command
  | .qreset => .command
  | .switch _ _ _ _ _ _ => .command
  | .teach _ => .command
  | .fRdIdbase => .command
  | .fRdSwVer => .command
  | .fReset => .command
  | .fRpsPress _ _ _ => .command
  | .fRpsRelease _ _ => .command
  | .f4bsDim _ _ => .command
  | .f4bsTeach _ => .command
  | .rxAckIdBaseOk _ => .receive
  | .rxAckNotWantedAck _ => .receive
  | .rxAckNotAck _ => .receive
  | .rxAckDuplicateId _ => .receive
  | .rxAckErrHeaderSeq _ => .receive
  | .rxAckErrLength _ => .receive
  | .rxAckErrChecksum _ => .receive
  | .rxAckErrType _ => .receive
  | .rxAckErrTxIdrange _ => .receive
  | .rxAckErrIdrange _ => .receive
  | .rxAckUnknown _ => .receive
  | .rxBaseid _ => .receive
  | .rxRps _ => .receive
  | .rx4bs _ => .receive
  | .rxOther _ => .receive

end Sys2Proof
end

