-- ==== Sys2Proof/Machine/Operands.lean ====
section
/-! DEFINITION. The operand computations of the Command Builder and the seven frame kinds it builds
(30_encoding.md R82, R85, R89; 43_command_builder.md R173, R178 to R181). Pure functions. -/

namespace Sys2Proof.Machine

/-- IN_RANGE(id, base) (R173): the window (base, base + BASE_SPAN], on unbounded integers, so the
upper bound does not wrap (R256). -/
def inRange (p : Params) (id base : NodeId) : Bool :=
  decide (base.toNat < id.toNat) && decide (id.toNat ≤ base.toNat + p.baseSpan)

/-- rid = (unit - 1) mod 4, `unit - 1` taken modulo 256 first (R178, D16). -/
def rockerIndex (unit : Byte) : BitVec 2 := (unit - 1).setWidth 2

/-- The clamp of a direct percentage at LEVEL_MAX (R89). -/
def clampLevel (p : Params) (v : Byte) : Byte := if v.toNat ≤ p.levelMax.toNat then v else p.levelMax

/-- SCALE of a 0..15 level: min(LEVEL_MAX, floor(level * 100 / 15)) (R89). -/
def scaleLevel (p : Params) (level : Byte) : Byte :=
  BitVec.ofNat 8 (min p.levelMax.toNat (level.toNat * 100 / 15))

/-- SCALE (R89). `none` for ON and OFF to a target that is no dimmer: R89 gives them no level, and
they are exactly the requests of R177 that take the rocker path. -/
def scale (p : Params) (cmd : Cmd) (level lastLevel : Byte) (isDimmer : Bool) : Option Byte :=
  match cmd, isDimmer with
  | .setLevel, _ => some (scaleLevel p level)
  | .on, true => some (clampLevel p lastLevel)
  | .off, true => some 0
  | .on, false => none
  | .off, false => none

/-- The up/down bit of a rocker command: 1 for ON, 0 for OFF (R178). SET never takes the rocker path. -/
def upDown : Cmd → BitVec 1
  | .on => 1
  | .off => 0
  | .setLevel => 0

/-- The flag byte of a dim frame: DIM_OFF when the level is zero, else DIM_ON (R179). -/
def dimFlag (p : Params) (pct : Byte) : Byte := if pct = 0 then p.dimOff else p.dimOn

/-- T <- BUILD_BASE(t); T.HDR <- HDR_RADIO_TX; MemWrite(T:8, 4, id) (R178, R179, R181). -/
def radioBase (p : Params) (t : Byte) (id : NodeId) : Frame :=
  writeId ((buildBase p t).set 2 p.hdrRadioTx) id

/-- The press fields written into T: DB3 and STATUS (R178). -/
def writePress (p : Params) (rid : BitVec 2) (ud : BitVec 1) (t : Frame) : Frame :=
  (t.set 4 (rpsPack rid ud 1)).set 12 p.statusPress

/-- The release fields written into the same T (R178): the rocker index is kept, up/down and pressed
are 0 (D17). -/
def writeRelease (p : Params) (rid : BitVec 2) (t : Frame) : Frame :=
  (t.set 4 (rpsPack rid 0 0)).set 12 p.statusRelease

/-- The working frame of F_RPS_PRESS before it is sealed (R178). -/
def pressT (p : Params) (rid : BitVec 2) (ud : BitVec 1) (id : NodeId) : Frame :=
  writePress p rid ud (radioBase p p.orgRps id)

/-- The working frame of F_RPS_RELEASE built on its own, before it is sealed (R85, R178). -/
def releaseT (p : Params) (rid : BitVec 2) (id : NodeId) : Frame :=
  writeRelease p rid (radioBase p p.orgRps id)

/-- The working frame of F_4BS_DIM before it is sealed (R179). -/
def dimT (p : Params) (pct : Byte) (id : NodeId) : Frame :=
  (((((radioBase p p.org4bs id).set 4 p.dimMarker).set 5 pct).set 6 p.dimRamp).set 7 (dimFlag p pct)).set 12
    p.status4bs

/-- The working frame of F_4BS_TEACH before it is sealed (R181). -/
def teachT (p : Params) (id : NodeId) : Frame :=
  ((radioBase p p.org4bs id).set 4 p.dimMarker).set 12 p.status4bs

/-- Frame kinds F_RD_IDBASE, F_RD_SW_VER and F_RESET (R85), by their telegram type. -/
def queryFrame (p : Params) (t : Byte) : Frame := sealFrame (buildBase p t)

/-- Frame kind F_RPS_PRESS (R85, R178). -/
def rpsPressFrame (p : Params) (rid : BitVec 2) (ud : BitVec 1) (id : NodeId) : Frame :=
  sealFrame (pressT p rid ud id)

/-- Frame kind F_RPS_RELEASE (R85, R178). -/
def rpsReleaseFrame (p : Params) (rid : BitVec 2) (id : NodeId) : Frame := sealFrame (releaseT p rid id)

/-- Frame kind F_4BS_DIM (R85, R179). -/
def dimFrame (p : Params) (pct : Byte) (id : NodeId) : Frame := sealFrame (dimT p pct id)

/-- Frame kind F_4BS_TEACH (R85, R181). -/
def teachFrame (p : Params) (id : NodeId) : Frame := sealFrame (teachT p id)

end Sys2Proof.Machine
end

