-- ==== Sys2Proof/Machine/State.lean ====
section
/-! DEFINITION. The state of the block (10_state.md R20), an operation in progress (R21 (c), R31), the
machine the host runs, the ways a step can stop, and the state after reset (R36). -/

namespace Sys2Proof.Machine

/-- RXSTATE: exactly the five values of R24, in D0's order. -/
inductive RxState where
  | awaitSync1 | awaitSync2 | readingHeader | readingBody | readingChecksum
deriving DecidableEq, Repr

/-- The error codes of the CMD port (60_exceptions.md R211, R212). -/
inductive ErrCode where
  /-- E_UNIT: unsupported unit index. -/
  | unit
  /-- E_IDRANGE: identifier outside the window above the base ID. -/
  | idRange
  /-- E_QFULL: a finite outbound queue has too little room. -/
  | qFull
  /-- E_BADREQ: reserved event word. -/
  | badReq
deriving DecidableEq, Repr

/-- The closed list of outcome events (R31). -/
inductive Event where
  /-- FRAME_OK(F, cls) -/
  | frameOk (f : Frame) (cls : FrameClass)
  /-- CHKERR -/
  | chkErr
  /-- ACK(name), or ACK(UNKNOWN_CODE) -/
  | ack (n : AckCode)
  /-- BASEID_SET(v) -/
  | baseIdSet (v : NodeId)
  /-- DIAG(F) -/
  | diag (f : Frame)
  /-- TO_INTERPRETER(F) -/
  | toInterpreter (f : Frame)
  /-- CMD_OK(n) -/
  | cmdOk (n : Nat)
  /-- CMD_ERR(code) -/
  | cmdErr (code : ErrCode)
  /-- TX(F) -/
  | tx (f : Frame)
  /-- TX_EMPTY -/
  | txEmpty
deriving DecidableEq, Repr

/-- No condition of the block stops it: "No error in this core is escalated to a process-terminating
fault" (R210; 93_implementation_defined.md, Part 1). So there is no fault (notes/assumptions/22.md). -/
inductive Fault where
deriving DecidableEq, Repr

/-- Why a step has no meaning. Each of these is safe: the model stops where it claims nothing. -/
inductive Refusal where
  /-- An instruction without a meaning yet; raised by exec's arms only. No arm raises it. -/
  | notModelled (mnemonic : String)
  /-- The configuration breaks a constraint of R7, R83 or R84, and R7 says that the model refuses it;
  raised by the step (notes/assumptions/16.md). Safe. -/
  | badConfig
  /-- A frame word waits as a built frame and is of no built kind (R85): no instruction at all; raised
  by the step (notes/assumptions/15.md). Safe. -/
  | noBuiltKind
deriving DecidableEq, Repr

/-- The whole state of the block: exactly the six items of R20. P is no part of it but a parameter of
every operation (R21 (a)), and outcome events are emitted, never stored here (R21 (c)). -/
structure Block where
  /-- RXBUF: the registers x[0] .. x[RXBUF_CAP - 1] (R22). -/
  rxbuf : RxBuf
  /-- RXSTATE (R24). -/
  rxstate : RxState
  /-- CURSOR: index of the next body or checksum byte to store (R24). -/
  cursor : BitVec 5
  /-- WANTED: wanted total length of the frame being received (R27). -/
  wanted : BitVec 5
  /-- BASE_ID: zero means unset (R28). -/
  baseId : NodeId
  /-- TXQ: the outbound queue, head first (R33). -/
  txq : List Frame
deriving DecidableEq, Repr

/-- An operation in progress: the block, and the output list of the current operation (R10, `emit`; R31:
"each operation returns a list of them, in the order emitted"). It exists inside one atomic operation
only. -/
structure OpState extends Block where
  /-- The outcome events emitted so far. -/
  emitted : List Event
deriving DecidableEq, Repr

/-- The machine the host runs: the block, and beside it what one host step needs, since the host's step
takes and returns nothing but this type. These four fields are the model's own and no state of the block
(R21; INVENTORY.md, State). -/
structure State extends Block where
  /-- Model's own: the configuration P, handed to every operation and written by none (R21 (a);
  notes/assumptions/1.md). -/
  params : Params
  /-- Model's own: the operations to come, in the total order of R57 (notes/assumptions/7.md). -/
  pending : List FetchWord
  /-- Model's own: the list of outcome events the last operation returned (R31), where the host can read
  it; no operation reads it (notes/assumptions/8.md). -/
  events : List Event
  /-- Model's own: the number of the next power-on reset, which selects the free values it leaves in
  RXBUF and WANTED (notes/assumptions/5.md). -/
  fresh : Nat
deriving DecidableEq, Repr

/-- The machine right after power-on reset, the column "after POR" of R36, with the default P of R6:
RXBUF and WANTED hold the free values number 0 (notes/assumptions/4.md), nothing is pending and
nothing has been emitted. -/
def State.reset : State :=
  { rxbuf := Config.porRxbuf 0 defaultParams.rxbufCap
    rxstate := .awaitSync1
    cursor := 0
    wanted := Config.porWanted 0
    baseId := 0
    txq := []
    params := defaultParams
    pending := []
    events := []
    fresh := 1 }

end Sys2Proof.Machine
end

