-- ==== Sys2Proof/Machine/Ops.lean ====
section
/-! DEFINITION. The named operations over the block: every register is written here and nowhere else,
conditions are raised here (60_exceptions.md R210 to R220), and delivery, dispatch and enqueueing are
written here once (41_receive.md R138, 42_dispatch.md R154, 43_command_builder.md R172, R182). P is a
parameter of each (10_state.md R21 (a)). -/

namespace Sys2Proof.Machine

/-! ## An operation as a whole -/

/-- The start of an operation: the block as it is, and no event emitted yet (R30, R31). -/
def startOp (b : Block) : OpState := { b with emitted := [] }

/-- The end of an operation: the block it leaves, and the events it returns handed to the host
(notes/assumptions/8.md). -/
def finishOp (r : OpState) (s : State) : State := { s with toBlock := r.toBlock, events := r.emitted }

/-- One atomic operation (R57) performed by the machine: it sees P and the block, and nothing else. -/
def perform (op : Params → OpState → OpState) (s : State) : State :=
  finishOp (op s.params (startOp s.toBlock)) s

/-- Every operation completes (R130, R210). -/
def complete (op : Params → OpState → OpState) (s : State) : Host.Outcome State Fault Refusal :=
  .next (perform op s)

/-- `emit E` (R10): append an outcome event to the list of the current operation. -/
def emit (e : Event) (r : OpState) : OpState := { r with emitted := r.emitted ++ [e] }

/-! ## Registers -/

/-- `pc <- (st, c)` (R10, R24). -/
def setPc (st : RxState) (c : BitVec 5) (r : OpState) : OpState := { r with rxstate := st, cursor := c }

/-- `x[i] <- v` (R10). R137 shows that every store of the receiver is inside the buffer; in a state no
run reaches, an index from RXBUF_CAP on stores nothing (notes/assumptions/17.md). -/
def putByte (i : Nat) (v : Byte) (r : OpState) : OpState := { r with rxbuf := r.rxbuf.set i v }

/-- CURSOR <- CURSOR + 1 (R135, R136). -/
def bumpCursor (r : OpState) : OpState := { r with cursor := r.cursor + 1 }

/-- WANTED <- v (R27). -/
def setWanted (v : BitVec 5) (r : OpState) : OpState := { r with wanted := v }

/-- BASE_ID <- v (R28). -/
def setBaseId (v : NodeId) (r : OpState) : OpState := { r with baseId := v }

/-! ## Conditions (60_exceptions.md): what raising one changes -/

/-- The closed table of conditions (R211). -/
inductive Condition where
  | framing
  | checksumError
  | unknownType (f : Frame)
  | cmdError (code : ErrCode)
deriving DecidableEq, Repr

/-- `raise X` (R10): exactly the state change and the report of the condition (R211, R213 to R216,
R220). Nothing is saved, masked or vectored, so there is no return operation (R221): the next operation
starts from the state this leaves. -/
def raiseCond (c : Condition) (r : OpState) : OpState :=
  match c with
  | .framing => setPc .awaitSync1 0 r
  | .checksumError => setPc .awaitSync1 0 (emit .chkErr r)
  | .unknownType f => emit (.diag f) r
  | .cmdError code => emit (.cmdErr code) r

/-! ## Delivery and dispatch -/

/-- The arm of DISPATCH for a class (R154): the one event that follows FRAME_OK; only C_BASEID writes
state, and only BASE_ID (R155). -/
def dispatchAs (cls : FrameClass) (f : Frame) (r : OpState) : OpState :=
  match cls with
  | .ack n => emit (.ack n) r
  | .baseId => emit (.baseIdSet (baseVal f)) (setBaseId (baseVal f) r)
  | .rps => emit (.toInterpreter f) r
  | .fourBs => emit (.toInterpreter f) r
  | .other => raiseCond (.unknownType f) r

/-- Delivery of a frame as one of a given class: FRAME_OK, then the dispatch (R136, R138, R154). -/
def deliverAs (cls : FrameClass) (f : Frame) (r : OpState) : OpState :=
  dispatchAs cls f (emit (.frameOk f cls) r)

/-- Delivery of a frame as one of the class CLASSIFY gives it (R136, R150). -/
def deliver (p : Params) (f : Frame) (r : OpState) : OpState := deliverAs (classify p f) f r

/-! ## The outbound queue -/

/-- ROOM(n): the queue has at least n free places; always, when TXQ_DEPTH is unbounded (R182). -/
def room (p : Params) (n : Nat) (r : OpState) : Bool :=
  match p.txqDepth with
  | none => true
  | some d => decide (r.txq.length + n ≤ d)

/-- push(TXQ, F) (R201): a new last entry. -/
def push (f : Frame) (r : OpState) : OpState := { r with txq := r.txq ++ [f] }

/-- ENQ(T) (R172): the checksum is recomputed, then a copy is pushed. -/
def enq (t : Frame) (r : OpState) : OpState := push (sealFrame t) r

/-- DRAIN's effect on the queue (R202): the head leaves and is handed out, or TX_EMPTY. -/
def popHead (r : OpState) : OpState :=
  match r.txq with
  | [] => emit .txEmpty r
  | f :: rest => emit (.tx f) { r with txq := rest }

/-! ## The shape of a build operation (R170): validate, queue room, build, enqueue -/

/-- Steps (2) to (5) of R170 for one frame: E_QFULL, or one frame enqueued and CMD_OK(1). -/
def buildOne (p : Params) (t : Frame) (r : OpState) : OpState :=
  if room p 1 r then emit (.cmdOk 1) (enq t r) else raiseCond (.cmdError .qFull) r

/-- Step (1) of R170 for a frame that names a node: the identifier's range first (R173, R181), so
that E_IDRANGE takes precedence over E_QFULL (R182). -/
def buildForNode (p : Params) (id : NodeId) (t : Frame) (r : OpState) : OpState :=
  if inRange p id r.baseId then buildOne p t r else raiseCond (.cmdError .idRange) r

end Sys2Proof.Machine
end

