-- ==== Sys2Proof/Machine/Builder.lean ====
section
/-! DEFINITION. The Command Builder's port operations (43_command_builder.md R174 to R181). -/

namespace Sys2Proof.Machine

/-- QBASE (R174). -/
def execQbase (s : State) : Host.Outcome State Fault Refusal :=
  complete (fun p => buildOne p (buildBase p p.orgRdIdbase)) s

/-- QVER (R175). -/
def execQver (s : State) : Host.Outcome State Fault Refusal :=
  complete (fun p => buildOne p (buildBase p p.orgRdSwVer)) s

/-- QRESET (R176): asks the transceiver to reset; only TXQ changes. -/
def execQreset (s : State) : Host.Outcome State Fault Refusal :=
  complete (fun p => buildOne p (buildBase p p.orgReset)) s

/-- SWITCH, rocker path (R178): the press frame, then the same working frame made the release frame. -/
def rockerPath (p : Params) (id : NodeId) (unit : Byte) (cmd : Cmd) (r : OpState) : OpState :=
  if room p 2 r then
    let rid := rockerIndex unit
    let t := sealFrame (pressT p rid (upDown cmd) id)
    emit (.cmdOk 2) (enq (writeRelease p rid t) (enq t r))
  else raiseCond (.cmdError .qFull) r

/-- SWITCH, dim path (R179): one dim frame with the resulting level. -/
def dimPath (p : Params) (id : NodeId) (pct : Byte) (r : OpState) : OpState := buildOne p (dimT p pct id) r

/-- SWITCH (R177): unit, then identifier range, then the path; SCALE gives a level exactly to the
requests of the dim path. -/
def switchCommand (p : Params) (id : NodeId) (unit : Byte) (cmd : Cmd) (level : Byte) (isDimmer : Bool)
    (lastLevel : Byte) (r : OpState) : OpState :=
  if p.unitLimit ≤ unit.toNat then raiseCond (.cmdError .unit) r
  else if inRange p id r.baseId then
    match scale p cmd level lastLevel isDimmer with
    | some pct => dimPath p id pct r
    | none => rockerPath p id unit cmd r
  else raiseCond (.cmdError .idRange) r

/-- SWITCH (R177 to R180). -/
def execSwitch (id : NodeId) (unit : Byte) (cmd : Cmd) (level : Byte) (isDimmer : Bool) (lastLevel : Byte)
    (s : State) : Host.Outcome State Fault Refusal :=
  complete (fun p => switchCommand p id unit cmd level isDimmer lastLevel) s

/-- TEACH (R181): no unit test, since there is no unit operand (D34). -/
def execTeach (id : NodeId) (s : State) : Host.Outcome State Fault Refusal :=
  complete (fun p => buildForNode p id (teachT p id)) s

/-- What the block answers to a reserved event word: CMD_ERR(E_BADREQ), no state change (R93). -/
def reservedRequest (s : State) : State := perform (fun _ => raiseCond (.cmdError .badReq)) s

end Sys2Proof.Machine
end

