-- ==== Sys2Proof/Machine/BuiltKinds.lean ====
section
/-! DEFINITION. The seven built frame kinds (30_encoding.md R85, R96) performed: each is the build
operation of 43_command_builder.md R170 for that one frame (notes/assumptions/10.md). -/

namespace Sys2Proof.Machine

/-- F_RD_IDBASE (R174). -/
def execFRdIdbase (s : State) : Host.Outcome State Fault Refusal :=
  complete (fun p => buildOne p (buildBase p p.orgRdIdbase)) s

/-- F_RD_SW_VER (R175). -/
def execFRdSwVer (s : State) : Host.Outcome State Fault Refusal :=
  complete (fun p => buildOne p (buildBase p p.orgRdSwVer)) s

/-- F_RESET (R176). -/
def execFReset (s : State) : Host.Outcome State Fault Refusal :=
  complete (fun p => buildOne p (buildBase p p.orgReset)) s

/-- F_RPS_PRESS (R178). -/
def execFRpsPress (rid : BitVec 2) (ud : BitVec 1) (id : NodeId) (s : State) : Host.Outcome State Fault Refusal :=
  complete (fun p => buildForNode p id (pressT p rid ud id)) s

/-- F_RPS_RELEASE (R178). -/
def execFRpsRelease (rid : BitVec 2) (id : NodeId) (s : State) : Host.Outcome State Fault Refusal :=
  complete (fun p => buildForNode p id (releaseT p rid id)) s

/-- F_4BS_DIM (R179): the level is a direct percentage, clamped at LEVEL_MAX (R89). -/
def execF4bsDim (pct : Byte) (id : NodeId) (s : State) : Host.Outcome State Fault Refusal :=
  complete (fun p => buildForNode p id (dimT p (clampLevel p pct) id)) s

/-- F_4BS_TEACH (R181). -/
def execF4bsTeach (id : NodeId) (s : State) : Host.Outcome State Fault Refusal :=
  complete (fun p => buildForNode p id (teachT p id)) s

end Sys2Proof.Machine
end

