-- ==== Sys2Proof/Machine/Queue.lean ====
section
/-! DEFINITION. The Outbound Queue's port operation DRAIN (44_outbound_queue.md), and the bytes the
transport sends for a frame it was handed (R203). -/

namespace Sys2Proof.Machine

/-- DRAIN (R202). -/
def execDrain (s : State) : Host.Outcome State Fault Refusal := complete (fun _ => popHead) s

/-- The fourteen bytes of TX(F) in the order they are sent: F[0] first, F[13] last (R203). -/
def wireBytes (f : Frame) : List Byte := f.toList

end Sys2Proof.Machine
end

