-- ==== Sys2Proof/Machine/Receive.lean ====
section
/-! DEFINITION. The Receive State Machine: RXB in its five states, and REOPEN (41_receive.md). -/

namespace Sys2Proof.Machine

/-- RXB in AwaitSync1 (R132): advance on SYNC1, else the framing condition (R213). -/
def rxAwaitSync1 (p : Params) (b : Byte) (r : OpState) : OpState :=
  if b = p.sync1 then setPc .awaitSync2 0 r else raiseCond .framing r

/-- RXB in AwaitSync2 (R133): advance on SYNC2, else the framing condition; the byte is not looked at
again, even when it is SYNC1. -/
def rxAwaitSync2 (p : Params) (b : Byte) (r : OpState) : OpState :=
  if b = p.sync2 then setPc .readingHeader 0 r else raiseCond .framing r

/-- RXB in ReadingHeader (R134): the synchronisation bytes are stored from the constants. -/
def rxReadingHeader (p : Params) (b : Byte) (r : OpState) : OpState :=
  setPc .readingBody 3 (setWanted (wantedLen p b) (putByte 2 b (putByte 1 p.sync2 (putByte 0 p.sync1 r))))

/-- The test of R135 after a body byte: ReadingChecksum when CURSOR >= WANTED - 1 (D8: "reaches" is
"is greater than or equal to"; no integer here is negative). -/
def endBody (r : OpState) : OpState :=
  if r.wanted.toNat ≤ r.cursor.toNat + 1 then setPc .readingChecksum r.cursor r else r

/-- RXB in ReadingBody (R135): store, increment, then the test, compared after the increment. -/
def rxReadingBody (b : Byte) (r : OpState) : OpState := endBody (bumpCursor (putByte r.cursor.toNat b r))

/-- The end of a frame (R136): CHK over the buffer against the received byte; delivery of x[0..13]
(R138) or the checksum error (R214); in both cases pc <- (AwaitSync1, 0). -/
def endFrame (p : Params) (b : Byte) (r : OpState) : OpState :=
  if bufChk r.rxbuf = b then setPc .awaitSync1 0 (deliver p (frameOf r.rxbuf) r)
  else setPc .awaitSync1 0 (raiseCond .checksumError r)

/-- RXB in ReadingChecksum (R136): store, increment, then the end of the frame. -/
def rxReadingChecksum (p : Params) (b : Byte) (r : OpState) : OpState :=
  endFrame p b (bumpCursor (putByte r.cursor.toNat b r))

/-- Exactly one of R132 to R136, selected by RXSTATE (R130). -/
def rxByte (p : Params) (b : Byte) (r : OpState) : OpState :=
  match r.rxstate with
  | .awaitSync1 => rxAwaitSync1 p b r
  | .awaitSync2 => rxAwaitSync2 p b r
  | .readingHeader => rxReadingHeader p b r
  | .readingBody => rxReadingBody b r
  | .readingChecksum => rxReadingChecksum p b r

/-- REOPEN's effect (R141). -/
def reopenBlock (r : OpState) : OpState := setBaseId 0 (setPc .awaitSync1 0 r)

/-- RXB b (R130). -/
def execRxb (b : Byte) (s : State) : Host.Outcome State Fault Refusal :=
  complete (fun p => rxByte p b) s

/-- REOPEN (R141): pc and BASE_ID; RXBUF, WANTED and TXQ stay; no event. -/
def execReopen (s : State) : Host.Outcome State Fault Refusal :=
  complete (fun _ => reopenBlock) s

end Sys2Proof.Machine
end

