-- ==== Sys2Proof/Machine/Received.lean ====
section
/-! DEFINITION. The fifteen received classes (30_encoding.md R86, R96) performed: each is the delivery
and dispatch of a frame of that class, the part of RXB from the matching checksum on (41_receive.md
R136, R138; 42_dispatch.md R152 to R157; notes/assumptions/11.md). -/

namespace Sys2Proof.Machine

/-- RX_ACK_ID_BASE_OK (R152): ACK(ID_BASE_OK) and nothing else. -/
def execRxAckIdBaseOk (f : Frame) (s : State) : Host.Outcome State Fault Refusal :=
  complete (fun _ => deliverAs (.ack (.known .idBaseOk)) f) s

/-- RX_ACK_NOT_WANTED_ACK (R152): ACK(NOT_WANTED_ACK) and nothing else. -/
def execRxAckNotWantedAck (f : Frame) (s : State) : Host.Outcome State Fault Refusal :=
  complete (fun _ => deliverAs (.ack (.known .notWantedAck)) f) s

/-- RX_ACK_NOT_ACK (R152): ACK(NOT_ACK) and nothing else. -/
def execRxAckNotAck (f : Frame) (s : State) : Host.Outcome State Fault Refusal :=
  complete (fun _ => deliverAs (.ack (.known .notAck)) f) s

/-- RX_ACK_DUPLICATE_ID (R152): ACK(DUPLICATE_ID) and nothing else. -/
def execRxAckDuplicateId (f : Frame) (s : State) : Host.Outcome State Fault Refusal :=
  complete (fun _ => deliverAs (.ack (.known .duplicateId)) f) s

/-- RX_ACK_ERR_HEADER_SEQ (R152): ACK(ERR_HEADER_SEQ) and nothing else. -/
def execRxAckErrHeaderSeq (f : Frame) (s : State) : Host.Outcome State Fault Refusal :=
  complete (fun _ => deliverAs (.ack (.known .errHeaderSeq)) f) s

/-- RX_ACK_ERR_LENGTH (R152): ACK(ERR_LENGTH) and nothing else. -/
def execRxAckErrLength (f : Frame) (s : State) : Host.Outcome State Fault Refusal :=
  complete (fun _ => deliverAs (.ack (.known .errLength)) f) s

/-- RX_ACK_ERR_CHECKSUM (R152): ACK(ERR_CHECKSUM) and nothing else. -/
def execRxAckErrChecksum (f : Frame) (s : State) : Host.Outcome State Fault Refusal :=
  complete (fun _ => deliverAs (.ack (.known .errChecksum)) f) s

/-- RX_ACK_ERR_TYPE (R152): ACK(ERR_TYPE) and nothing else. -/
def execRxAckErrType (f : Frame) (s : State) : Host.Outcome State Fault Refusal :=
  complete (fun _ => deliverAs (.ack (.known .errType)) f) s

/-- RX_ACK_ERR_TX_IDRANGE (R152): ACK(ERR_TX_IDRANGE) and nothing else. -/
def execRxAckErrTxIdrange (f : Frame) (s : State) : Host.Outcome State Fault Refusal :=
  complete (fun _ => deliverAs (.ack (.known .errTxIdrange)) f) s

/-- RX_ACK_ERR_IDRANGE (R152): ACK(ERR_IDRANGE) and nothing else. -/
def execRxAckErrIdrange (f : Frame) (s : State) : Host.Outcome State Fault Refusal :=
  complete (fun _ => deliverAs (.ack (.known .errIdrange)) f) s

/-- RX_ACK_UNKNOWN (R153): swallowed, ACK(UNKNOWN_CODE). -/
def execRxAckUnknown (f : Frame) (s : State) : Host.Outcome State Fault Refusal :=
  complete (fun _ => deliverAs (.ack .unknownCode) f) s

/-- RX_BASEID (R155): BASE_ID takes the four data bytes, unconditionally. -/
def execRxBaseid (f : Frame) (s : State) : Host.Outcome State Fault Refusal :=
  complete (fun _ => deliverAs .baseId f) s

/-- RX_RPS (R156): handed to the Telegram Interpreter. -/
def execRxRps (f : Frame) (s : State) : Host.Outcome State Fault Refusal :=
  complete (fun _ => deliverAs .rps f) s

/-- RX_4BS (R156): handed to the Telegram Interpreter. -/
def execRx4bs (f : Frame) (s : State) : Host.Outcome State Fault Refusal :=
  complete (fun _ => deliverAs .fourBs f) s

/-- RX_OTHER (R157): DIAG only. -/
def execRxOther (f : Frame) (s : State) : Host.Outcome State Fault Refusal :=
  complete (fun _ => deliverAs .other f) s

end Sys2Proof.Machine
end

