-- ==== Sys2Proof/Machine/Reset.lean ====
section
/-! DEFINITION. Power-on reset (70_reset_and_hazards.md R240; values: 10_state.md R36). -/

namespace Sys2Proof.Machine

/-- The column "after POR" of R36: RXBUF and WANTED take free values of this reset's own number
n (notes/assumptions/4.md). -/
def powerOn (p : Params) (n : Nat) (r : OpState) : OpState :=
  { r with
    rxbuf := Config.porRxbuf n p.rxbufCap
    rxstate := .awaitSync1
    cursor := 0
    wanted := Config.porWanted n
    baseId := 0
    txq := [] }

/-- POR (R240): emits no event. The machine counts its resets, so that each reads free values of its own
(notes/assumptions/5.md). -/
def execPor (s : State) : Host.Outcome State Fault Refusal :=
  complete (fun p => powerOn p s.fresh) { s with fresh := s.fresh + 1 }

end Sys2Proof.Machine
end

