-- ==== Sys2Proof/Machine/Dispatch.lean ====
section
/-! DEFINITION. exec: one arm per constructor of Instr, each one direct call of its meaning. -/

namespace Sys2Proof.Machine

def exec (i : Instr) (s : State) : Host.Outcome State Fault Refusal :=
  match i with
  | .fRdIdbase => Sys2Proof.Machine.execFRdIdbase s
  | .fRdSwVer => Sys2Proof.Machine.execFRdSwVer s
  | .fReset => Sys2Proof.Machine.execFReset s
  | .fRpsPress rid ud id => Sys2Proof.Machine.execFRpsPress rid ud id s
  | .fRpsRelease rid id => Sys2Proof.Machine.execFRpsRelease rid id s
  | .f4bsDim pct id => Sys2Proof.Machine.execF4bsDim pct id s
  | .f4bsTeach id => Sys2Proof.Machine.execF4bsTeach id s
  | .rxAckIdBaseOk f => Sys2Proof.Machine.execRxAckIdBaseOk f s
  | .rxAckNotWantedAck f => Sys2Proof.Machine.execRxAckNotWantedAck f s
  | .rxAckNotAck f => Sys2Proof.Machine.execRxAckNotAck f s
  | .rxAckDuplicateId f => Sys2Proof.Machine.execRxAckDuplicateId f s
  | .rxAckErrHeaderSeq f => Sys2Proof.Machine.execRxAckErrHeaderSeq f s
  | .rxAckErrLength f => Sys2Proof.Machine.execRxAckErrLength f s
  | .rxAckErrChecksum f => Sys2Proof.Machine.execRxAckErrChecksum f s
  | .rxAckErrType f => Sys2Proof.Machine.execRxAckErrType f s
  | .rxAckErrTxIdrange f => Sys2Proof.Machine.execRxAckErrTxIdrange f s
  | .rxAckErrIdrange f => Sys2Proof.Machine.execRxAckErrIdrange f s
  | .rxAckUnknown f => Sys2Proof.Machine.execRxAckUnknown f s
  | .rxBaseid f => Sys2Proof.Machine.execRxBaseid f s
  | .rxRps f => Sys2Proof.Machine.execRxRps f s
  | .rx4bs f => Sys2Proof.Machine.execRx4bs f s
  | .rxOther f => Sys2Proof.Machine.execRxOther f s
  | .por => Sys2Proof.Machine.execPor s
  | .reopen => Sys2Proof.Machine.execReopen s
  | .rxb b => Sys2Proof.Machine.execRxb b s
  | .drain => Sys2Proof.Machine.execDrain s
  | .qbase => Sys2Proof.Machine.execQbase s
  | .qver => Sys2Proof.Machine.execQver s
  | .qreset => Sys2Proof.Machine.execQreset s
  | .switch id unit cmd level isDimmer lastLevel => Sys2Proof.Machine.execSwitch id unit cmd level isDimmer lastLevel s
  | .teach id => Sys2Proof.Machine.execTeach id s

end Sys2Proof.Machine
end

