-- ==== Sys2Proof/WellFormed.lean ====
section
/-! DEFINITION. When a term of `Instr` is an operation the block knows: a received-class row carries
a frame of that class (30_encoding.md R86, 42_dispatch.md R150), a dim frame a level of at most
LEVEL_MAX (R85, R89). Every other operand admits every value of its width (R92). -/

namespace Sys2Proof

/-- Well-formedness of an instruction under the configuration p. -/
def Instr.wellFormed (p : Params) : Instr → Bool
  | .f4bsDim pct _ => decide (pct.toNat ≤ p.levelMax.toNat)
  | .rxAckIdBaseOk f => decide (Machine.classify p f = .ack (.known .idBaseOk))
  | .rxAckNotWantedAck f => decide (Machine.classify p f = .ack (.known .notWantedAck))
  | .rxAckNotAck f => decide (Machine.classify p f = .ack (.known .notAck))
  | .rxAckDuplicateId f => decide (Machine.classify p f = .ack (.known .duplicateId))
  | .rxAckErrHeaderSeq f => decide (Machine.classify p f = .ack (.known .errHeaderSeq))
  | .rxAckErrLength f => decide (Machine.classify p f = .ack (.known .errLength))
  | .rxAckErrChecksum f => decide (Machine.classify p f = .ack (.known .errChecksum))
  | .rxAckErrType f => decide (Machine.classify p f = .ack (.known .errType))
  | .rxAckErrTxIdrange f => decide (Machine.classify p f = .ack (.known .errTxIdrange))
  | .rxAckErrIdrange f => decide (Machine.classify p f = .ack (.known .errIdrange))
  | .rxAckUnknown f => decide (Machine.classify p f = .ack .unknownCode)
  | .rxBaseid f => decide (Machine.classify p f = .baseId)
  | .rxRps f => decide (Machine.classify p f = .rps)
  | .rx4bs f => decide (Machine.classify p f = .fourBs)
  | .rxOther f => decide (Machine.classify p f = .other)
  | .fRdIdbase => true
  | .fRdSwVer => true
  | .fReset => true
  | .fRpsPress _ _ _ => true
  | .fRpsRelease _ _ => true
  | .f4bsTeach _ => true
  | .por => true
  | .reopen => true
  | .rxb _ => true
  | .drain => true
  | .qbase => true
  | .qver => true
  | .qreset => true
  | .switch _ _ _ _ _ _ => true
  | .teach _ => true

end Sys2Proof
end

