-- ==== Sys2Proof/Decode.lean ====
section
/-! DEFINITION. The decoder of event words and frame words, the opcode table as data, and the encoder
(30_encoding.md R85, R86, R91 to R93, R96; 00_scope.md R9). -/

namespace Sys2Proof

/-! ## Frame words (R9) -/

/-- The frame a 112-bit frame word stands for: F[0] in its most significant byte (R9). -/
def frameOfWord (w : BitVec 112) : Frame :=
  Vector.ofFn fun i : Fin frameLen => w.extractLsb' (8 * (13 - i.val)) 8

/-- The 112-bit value F[0] ++ F[1] ++ ... ++ F[13] of a frame (R9). -/
def wordOfFrame (f : Frame) : BitVec 112 :=
  f[0] ++ f[1] ++ f[2] ++ f[3] ++ f[4] ++ f[5] ++ f[6] ++ f[7] ++ f[8] ++ f[9] ++ f[10] ++ f[11] ++ f[12] ++ f[13]

/-! ## The decoder -/

/-- Why a word decodes to no instruction. -/
inductive DecodeError where
  /-- A reserved event word: OP 0x4..0x7 or 0xD..0xF, or SWITCH with cmd = 3 (R93). -/
  | reservedEvent
  /-- A frame word offered as a built frame that is of no built kind (R85, R96). -/
  | noBuiltKind
deriving DecidableEq, Repr

/-- The command code of SWITCH, EVW[63:62] (R92); 3 is reserved (R93). -/
def decodeCmd (c : BitVec 2) : Option Cmd :=
  match c.toNat with
  | 0 => some .off
  | 1 => some .on
  | 2 => some .setLevel
  | _ => none

/-- SWITCH from its payload (R92). -/
def decodeSwitch (w : BitVec 68) : Except DecodeError Instr :=
  match decodeCmd (w.extractLsb' 62 2) with
  | some cmd =>
    .ok (.switch (w.extractLsb' 0 32) (w.extractLsb' 48 8) cmd (w.extractLsb' 40 8)
      (decide (w.extractLsb' 61 1 = 1)) (w.extractLsb' 32 8))
  | none => .error .reservedEvent

/-- The operation of an event word, selected by OP = EVW[67:64] (R91, R93). -/
def decodeEvent (w : BitVec 68) : Except DecodeError Instr :=
  match (w.extractLsb' 64 4).toNat with
  | 0x0 => .ok .por
  | 0x1 => .ok .reopen
  | 0x2 => .ok (.rxb (w.extractLsb' 0 8))
  | 0x3 => .ok .drain
  | 0x8 => .ok .qbase
  | 0x9 => .ok .qver
  | 0xA => .ok .qreset
  | 0xB => decodeSwitch w
  | 0xC => .ok (.teach (w.extractLsb' 0 32))
  | _ => .error .reservedEvent

/-- The class row of a received frame (R86, R96): the class CLASSIFY gives it (R150). -/
def decodeReceived (p : Params) (f : Frame) : Instr :=
  match Machine.classify p f with
  | .ack (.known .idBaseOk) => .rxAckIdBaseOk f
  | .ack (.known .notWantedAck) => .rxAckNotWantedAck f
  | .ack (.known .notAck) => .rxAckNotAck f
  | .ack (.known .duplicateId) => .rxAckDuplicateId f
  | .ack (.known .errHeaderSeq) => .rxAckErrHeaderSeq f
  | .ack (.known .errLength) => .rxAckErrLength f
  | .ack (.known .errChecksum) => .rxAckErrChecksum f
  | .ack (.known .errType) => .rxAckErrType f
  | .ack (.known .errTxIdrange) => .rxAckErrTxIdrange f
  | .ack (.known .errIdrange) => .rxAckErrIdrange f
  | .ack .unknownCode => .rxAckUnknown f
  | .baseId => .rxBaseid f
  | .rps => .rxRps f
  | .fourBs => .rx4bs f
  | .other => .rxOther f

/-- The bytes every frame of SWITCH and TEACH has at offsets 0..3 (R85). -/
def hasRadioHead (p : Params) (t : Byte) (f : Frame) : Bool :=
  decide (f[0] = p.sync1) && decide (f[1] = p.sync2) && decide (f[2] = p.hdrRadioTx) && decide (f[3] = t)

/-- DB2, DB1 and DB0 are zero. -/
def restZero (f : Frame) : Bool := decide (f[5] = 0) && decide (f[6] = 0) && decide (f[7] = 0)

/-- The built kind of a frame (R85), by the bits R96 puts into its row's mask: of the three query
kinds the whole frame; of the others neither the checksum byte nor, in a dim frame, which of the
two flag bytes stands there (notes/assumptions/12.md). -/
def decodeBuilt (p : Params) (f : Frame) : Except DecodeError Instr :=
  if f = Machine.queryFrame p p.orgRdIdbase then .ok .fRdIdbase
  else if f = Machine.queryFrame p p.orgRdSwVer then .ok .fRdSwVer
  else if f = Machine.queryFrame p p.orgReset then .ok .fReset
  else if hasRadioHead p p.orgRps f && restZero f && decide (f[4] &&& 0x1F = 0x10) && decide (f[12] = p.statusPress) then
    .ok (.fRpsPress (Machine.rpsUnpack f[4]).rid (Machine.rpsUnpack f[4]).ud (Machine.nodeId f))
  else if hasRadioHead p p.orgRps f && restZero f && decide (f[4] &&& 0x3F = 0) && decide (f[12] = p.statusRelease) then
    .ok (.fRpsRelease (Machine.rpsUnpack f[4]).rid (Machine.nodeId f))
  else if hasRadioHead p p.org4bs f && decide (f[4] = p.dimMarker) && decide (f[6] = p.dimRamp) &&
      (decide (f[7] = p.dimOn) || decide (f[7] = p.dimOff)) && decide (f[12] = p.status4bs) then
    .ok (.f4bsDim f[5] (Machine.nodeId f))
  else if hasRadioHead p p.org4bs f && decide (f[4] = p.dimMarker) && restZero f && decide (f[12] = p.status4bs) then
    .ok (.f4bsTeach (Machine.nodeId f))
  else .error .noBuiltKind

/-- The decoder: total on every word of either format, rejecting by name. -/
def decode (p : Params) : FetchWord → Except DecodeError Instr
  | .event w => decodeEvent w
  | .built w => decodeBuilt p (frameOfWord w)
  | .received w => .ok (decodeReceived p (frameOfWord w))

/-- A word numbered as spec/opcode_table.json numbers it: the 112-bit number of R9 for a FRAME14 row,
the 68-bit event word for an EVW68 row (68 bits, or 72 in whole bytes). DESIGN CHOICE
(notes/assumptions/13.md): the spec gives a frame word no direction of its own; one that is of a built
kind under p is taken as built, every other as received. p is the P of whoever places the word: the
state's own for withFetchWord, the default P for decodeTableWord. -/
def tableFetchWord (p : Params) (nbits w : Nat) : Option FetchWord :=
  if nbits = 112 then
    if w < 2 ^ 112 then
      match decodeBuilt p (frameOfWord (BitVec.ofNat 112 w)) with
      | .ok _ => some (.built (BitVec.ofNat 112 w))
      | .error _ => some (.received (BitVec.ofNat 112 w))
    else none
  else if nbits = 68 ∨ nbits = 72 then
    if w < 2 ^ 68 then some (.event (BitVec.ofNat 68 w)) else none
  else none

/-- The instruction the decoder reads from a word of the opcode table, under the default P for which
the table is computed (R96). -/
def decodeTableWord (nbits w : Nat) : Option Instr :=
  match tableFetchWord Machine.defaultParams nbits w with
  | some fw => (decode Machine.defaultParams fw).toOption
  | none => none

/-! ## The encoder -/

/-- EVW = OP ++ payload (R91). -/
def eventWord (op : BitVec 4) (payload : BitVec 64) : BitVec 68 := op ++ payload

/-- The code of a command (R92). -/
def cmdCode : Cmd → BitVec 2
  | .off => 0
  | .on => 1
  | .setLevel => 2

/-- The SWITCH payload (R92), the ignored bits 60:56 zero. -/
def switchPayload (id : NodeId) (unit : Byte) (cmd : Cmd) (level : Byte) (isDimmer : Bool) (lastLevel : Byte) :
    BitVec 64 :=
  cmdCode cmd ++ BitVec.ofBool isDimmer ++ 0#5 ++ unit ++ level ++ lastLevel ++ id

/-- The word of an instruction, its ignored bits zero (R85, R91, R92, R96). -/
def encode (p : Params) : Instr → FetchWord
  | .fRdIdbase => .built (wordOfFrame (Machine.queryFrame p p.orgRdIdbase))
  | .fRdSwVer => .built (wordOfFrame (Machine.queryFrame p p.orgRdSwVer))
  | .fReset => .built (wordOfFrame (Machine.queryFrame p p.orgReset))
  | .fRpsPress rid ud id => .built (wordOfFrame (Machine.rpsPressFrame p rid ud id))
  | .fRpsRelease rid id => .built (wordOfFrame (Machine.rpsReleaseFrame p rid id))
  | .f4bsDim pct id => .built (wordOfFrame (Machine.dimFrame p pct id))
  | .f4bsTeach id => .built (wordOfFrame (Machine.teachFrame p id))
  | .rxAckIdBaseOk f => .received (wordOfFrame f)
  | .rxAckNotWantedAck f => .received (wordOfFrame f)
  | .rxAckNotAck f => .received (wordOfFrame f)
  | .rxAckDuplicateId f => .received (wordOfFrame f)
  | .rxAckErrHeaderSeq f => .received (wordOfFrame f)
  | .rxAckErrLength f => .received (wordOfFrame f)
  | .rxAckErrChecksum f => .received (wordOfFrame f)
  | .rxAckErrType f => .received (wordOfFrame f)
  | .rxAckErrTxIdrange f => .received (wordOfFrame f)
  | .rxAckErrIdrange f => .received (wordOfFrame f)
  | .rxAckUnknown f => .received (wordOfFrame f)
  | .rxBaseid f => .received (wordOfFrame f)
  | .rxRps f => .received (wordOfFrame f)
  | .rx4bs f => .received (wordOfFrame f)
  | .rxOther f => .received (wordOfFrame f)
  | .por => .event (eventWord 0x0 0)
  | .reopen => .event (eventWord 0x1 0)
  | .rxb b => .event (eventWord 0x2 (b.setWidth 64))
  | .drain => .event (eventWord 0x3 0)
  | .qbase => .event (eventWord 0x8 0)
  | .qver => .event (eventWord 0x9 0)
  | .qreset => .event (eventWord 0xA 0)
  | .switch id unit cmd level isDimmer lastLevel =>
    .event (eventWord 0xB (switchPayload id unit cmd level isDimmer lastLevel))
  | .teach id => .event (eventWord 0xC (id.setWidth 64))

/-! ## The opcode table (R96) as data -/

/-- One row of spec/opcode_table.json of n bits: a word w is of the row when `w &&& mask = pat`. -/
structure TableRow (n : Nat) where
  mnemonic : String
  pat : BitVec n
  mask : BitVec n
deriving DecidableEq, Repr

/-- The seven rows of direction "built". -/
def builtRows : List (TableRow 112) :=
  [⟨"F_RD_IDBASE", 0xA55A8B58000000000000000000E3, 0xFFFFFFFFFFFFFFFFFFFFFFFFFFFF⟩,
   ⟨"F_RD_SW_VER", 0xA55A8B4B000000000000000000D6, 0xFFFFFFFFFFFFFFFFFFFFFFFFFFFF⟩,
   ⟨"F_RESET", 0xA55A8B0A00000000000000000095, 0xFFFFFFFFFFFFFFFFFFFFFFFFFFFF⟩,
   ⟨"F_RPS_PRESS", 0xA55A8B0510000000000000003000, 0xFFFFFFFF1FFFFFFF00000000FF00⟩,
   ⟨"F_RPS_RELEASE", 0xA55A8B0500000000000000002000, 0xFFFFFFFF3FFFFFFF00000000FF00⟩,
   ⟨"F_4BS_DIM", 0xA55A8B0702000108000000000000, 0xFFFFFFFFFF00FFFE00000000FF00⟩,
   ⟨"F_4BS_TEACH", 0xA55A8B0702000000000000000000, 0xFFFFFFFFFFFFFFFF00000000FF00⟩]

/-- The fifteen rows of direction "received", in the order R96 tries them in. -/
def receivedRows : List (TableRow 112) :=
  [⟨"RX_ACK_ID_BASE_OK", 0x00008B5800000000000000000000, 0x0000FFFF00000000000000000000⟩,
   ⟨"RX_ACK_NOT_WANTED_ACK", 0x00008B2800000000000000000000, 0x0000FFFF00000000000000000000⟩,
   ⟨"RX_ACK_NOT_ACK", 0x00008B2900000000000000000000, 0x0000FFFF00000000000000000000⟩,
   ⟨"RX_ACK_DUPLICATE_ID", 0x00008B0C00000000000000000000, 0x0000FFFF00000000000000000000⟩,
   ⟨"RX_ACK_ERR_HEADER_SEQ", 0x00008B0800000000000000000000, 0x0000FFFF00000000000000000000⟩,
   ⟨"RX_ACK_ERR_LENGTH", 0x00008B0900000000000000000000, 0x0000FFFF00000000000000000000⟩,
   ⟨"RX_ACK_ERR_CHECKSUM", 0x00008B0A00000000000000000000, 0x0000FFFF00000000000000000000⟩,
   ⟨"RX_ACK_ERR_TYPE", 0x00008B0B00000000000000000000, 0x0000FFFF00000000000000000000⟩,
   ⟨"RX_ACK_ERR_TX_IDRANGE", 0x00008B2200000000000000000000, 0x0000FFFF00000000000000000000⟩,
   ⟨"RX_ACK_ERR_IDRANGE", 0x00008B1A00000000000000000000, 0x0000FFFF00000000000000000000⟩,
   ⟨"RX_ACK_UNKNOWN", 0x00008B0000000000000000000000, 0x0000FF0000000000000000000000⟩,
   ⟨"RX_BASEID", 0x0000009800000000000000000000, 0x000000FF00000000000000000000⟩,
   ⟨"RX_RPS", 0x0000000500000000000000000000, 0x000000FF00000000000000000000⟩,
   ⟨"RX_4BS", 0x0000000700000000000000000000, 0x000000FF00000000000000000000⟩,
   ⟨"RX_OTHER", 0x0000000000000000000000000000, 0x0000000000000000000000000000⟩]

/-- The nine rows of format EVW68. -/
def eventRows : List (TableRow 68) :=
  [⟨"POR", 0x00000000000000000, 0xF0000000000000000⟩,
   ⟨"REOPEN", 0x10000000000000000, 0xF0000000000000000⟩,
   ⟨"RXB", 0x20000000000000000, 0xF0000000000000000⟩,
   ⟨"DRAIN", 0x30000000000000000, 0xF0000000000000000⟩,
   ⟨"QBASE", 0x80000000000000000, 0xF0000000000000000⟩,
   ⟨"QVER", 0x90000000000000000, 0xF0000000000000000⟩,
   ⟨"QRESET", 0xA0000000000000000, 0xF0000000000000000⟩,
   ⟨"SWITCH", 0xB0000000000000000, 0xF0000000000000000⟩,
   ⟨"TEACH", 0xC0000000000000000, 0xF0000000000000000⟩]

/-- The mnemonic of the first row a word is of (R96: rows are tried in order where they overlap). -/
def rowOf {n : Nat} (rows : List (TableRow n)) (w : BitVec n) : Option String :=
  (rows.find? fun r => decide (w &&& r.mask = r.pat)).map TableRow.mnemonic

/-- The mnemonic of an instruction's row in spec/opcode_table.json. -/
def mnemonicOf : Instr → String
  | .fRdIdbase => "F_RD_IDBASE"
  | .fRdSwVer => "F_RD_SW_VER"
  | .fReset => "F_RESET"
  | .fRpsPress _ _ _ => "F_RPS_PRESS"
  | .fRpsRelease _ _ => "F_RPS_RELEASE"
  | .f4bsDim _ _ => "F_4BS_DIM"
  | .f4bsTeach _ => "F_4BS_TEACH"
  | .rxAckIdBaseOk _ => "RX_ACK_ID_BASE_OK"
  | .rxAckNotWantedAck _ => "RX_ACK_NOT_WANTED_ACK"
  | .rxAckNotAck _ => "RX_ACK_NOT_ACK"
  | .rxAckDuplicateId _ => "RX_ACK_DUPLICATE_ID"
  | .rxAckErrHeaderSeq _ => "RX_ACK_ERR_HEADER_SEQ"
  | .rxAckErrLength _ => "RX_ACK_ERR_LENGTH"
  | .rxAckErrChecksum _ => "RX_ACK_ERR_CHECKSUM"
  | .rxAckErrType _ => "RX_ACK_ERR_TYPE"
  | .rxAckErrTxIdrange _ => "RX_ACK_ERR_TX_IDRANGE"
  | .rxAckErrIdrange _ => "RX_ACK_ERR_IDRANGE"
  | .rxAckUnknown _ => "RX_ACK_UNKNOWN"
  | .rxBaseid _ => "RX_BASEID"
  | .rxRps _ => "RX_RPS"
  | .rx4bs _ => "RX_4BS"
  | .rxOther _ => "RX_OTHER"
  | .por => "POR"
  | .reopen => "REOPEN"
  | .rxb _ => "RXB"
  | .drain => "DRAIN"
  | .qbase => "QBASE"
  | .qver => "QVER"
  | .qreset => "QRESET"
  | .switch _ _ _ _ _ _ => "SWITCH"
  | .teach _ => "TEACH"

end Sys2Proof
end

