-- ==== Sys2Proof/Machine/Fetch.lean ====
section
/-! DEFINITION. Fetching: the word at the head of `pending` is the next operation of the total order of
20_memory.md R57 (notes/assumptions/7.md). -/

namespace Sys2Proof.Machine

/-- What a fetch finds. -/
inductive Fetched where
  /-- P breaks a constraint (R7). -/
  | badConfig
  /-- No operation waits: the block itself starts none (R56, R250). -/
  | idle (s : State)
  /-- An operation, and the state with its word taken from `pending`. -/
  | op (i : Instr) (s : State)
  /-- A reserved event word (R93), and the state with it taken from `pending`. -/
  | reserved (s : State)
  /-- A word that is of no built kind (R85). -/
  | noBuiltKind
deriving DecidableEq, Repr

/-- Take and decode the word at the head of `pending`. -/
def fetch (s : State) : Fetched :=
  if paramsOk s.params then
    match s.pending with
    | [] => .idle s
    | w :: rest =>
      match decode s.params w with
      | .ok i => .op i { s with pending := rest }
      | .error .reservedEvent => .reserved { s with pending := rest }
      | .error .noBuiltKind => .noBuiltKind
  else .badConfig

/-- A step with nothing pending: no operation, so no event and no change (R56, R250;
notes/assumptions/9.md). -/
def idleStep (s : State) : State := { s with events := [] }

/-- Put a word of the opcode table where the next step fetches (`none`: the word is of neither format). The
direction of a frame word is found under the state's own P (`tableFetchWord`), so that a word placed as
built is never refused as of no built kind. -/
def placeWord (s : State) (nbits w : Nat) : State :=
  match tableFetchWord s.params nbits w with
  | some fw => { s with pending := fw :: s.pending }
  | none => s

end Sys2Proof.Machine
end

