-- ==== Sys2Proof/Machine/Step.lean ====
section
/-! DEFINITION. One step: fetch the next operation of the total order (20_memory.md R57) and perform it
whole. -/

namespace Sys2Proof.Machine

/-- One step. A reserved event word is answered with CMD_ERR(E_BADREQ) (R93); with nothing pending the
machine stays as it is; a configuration that breaks R7 is refused. -/
def step (s : State) : Host.Outcome State Fault Refusal :=
  match fetch s with
  | .badConfig => .refused .badConfig
  | .idle t => .next (idleStep t)
  | .op i t => exec i t
  | .reserved t => .next (reservedRequest t)
  | .noBuiltKind => .refused .noBuiltKind

/-- s with a word of spec/opcode_table.json placed at the head of `pending`, so that the very next step
runs it; nothing else changes. It stands for an agent issuing that operation (notes/assumptions/7.md). By
which P a frame word gets its direction is the model's choice: by the state's own (notes/assumptions/13.md). -/
def State.withFetchWord (s : State) (nbits w : Nat) : State := placeWord s nbits w

end Sys2Proof.Machine
end

