-- ==== Sys2Proof/Machine/Flags.lean ====
section
/-! DEFINITION. The block stores no flag and no condition code (10_state.md R30): what stands in their
place are result codes and outcome events. Here are the numbers the spec gives them. -/

namespace Sys2Proof.Machine

/-- The number of an error code of the CMD port (R212). -/
def errNumber : ErrCode → Nat
  | .unit => 1
  | .idRange => 2
  | .qFull => 3
  | .badReq => 4

/-- The result code a command operation's event stands for: 0 for CMD_OK, the code's number for
CMD_ERR (R212); the other events are no command results. -/
def resultCode : Event → Option Nat
  | .cmdOk _ => some 0
  | .cmdErr c => some (errNumber c)
  | .frameOk _ _ => none
  | .chkErr => none
  | .ack _ => none
  | .baseIdSet _ => none
  | .diag _ => none
  | .toInterpreter _ => none
  | .tx _ => none
  | .txEmpty => none

/-- The port at which an outcome event leaves (R32): command results at CMD, what DRAIN returns at TXD
(R10: `return` hands a value back on the operation's own port; for TX_EMPTY, notes/assumptions/29.md), every
other event at EVT. -/
def eventPort : Event → Port
  | .cmdOk _ => .cmd
  | .cmdErr _ => .cmd
  | .tx _ => .txd
  | .txEmpty => .txd
  | .frameOk _ _ => .evt
  | .chkErr => .evt
  | .ack _ => .evt
  | .baseIdSet _ => .evt
  | .diag _ => .evt
  | .toInterpreter _ => .evt

/-- What leaves at a port in the operation just performed, in the order emitted (R31, R32). -/
def portOutput (q : Port) (s : State) : List Event := s.events.filter fun e => decide (eventPort e = q)

/-- `write_command(...) -> bool`: true for CMD_OK, false for every CMD_ERR (R212). -/
def writeCommandResult (e : Event) : Option Bool := (resultCode e).map fun n => decide (n = 0)

/-- The encoding of RXSTATE where numbers are wanted (R25). -/
def rxStateCode : RxState → BitVec 3
  | .awaitSync1 => 0
  | .awaitSync2 => 1
  | .readingHeader => 2
  | .readingBody => 3
  | .readingChecksum => 4

end Sys2Proof.Machine
end

