-- ==== Sys2Proof/Machine/Views.lean ====
section
/-! DEFINITION. The three views of a frame and writes through them (30_encoding.md R70 to R73;
40_codec.md R115 to R118). A view is a naming of the same fourteen bytes. -/

namespace Sys2Proof.Machine

/-- VIEW_BASE (R115): SEQ and LENGTH are the two parts of HDR. -/
structure BaseView where
  sync1 : Byte
  sync2 : Byte
  hdr : Byte
  seq : BitVec 3
  length : BitVec 5
  org : Byte
  db3 : Byte
  db2 : Byte
  db1 : Byte
  db0 : Byte
  id3 : Byte
  id2 : Byte
  id1 : Byte
  id0 : Byte
  status : Byte
  checksum : Byte
deriving DecidableEq, Repr

/-- VIEW_EXT (R116), with XADDR = MemRead(F:10, 2). -/
structure ExtView where
  sync1 : Byte
  sync2 : Byte
  hdr : Byte
  org : Byte
  xdb5 : Byte
  xdb4 : Byte
  xdb3 : Byte
  xdb2 : Byte
  xdb1 : Byte
  xdb0 : Byte
  xaddr : BitVec 16
  status : Byte
  checksum : Byte
deriving DecidableEq, Repr

/-- VIEW_MACK (R117), with MADDR = MemRead(F:4, 2) and the padding returned as such. -/
structure MackView where
  sync1 : Byte
  sync2 : Byte
  hdr : Byte
  org : Byte
  maddr : BitVec 16
  mpad5 : Byte
  mpad4 : Byte
  mpad3 : Byte
  mpad2 : Byte
  mpad1 : Byte
  mpad0 : Byte
  status : Byte
  checksum : Byte
deriving DecidableEq, Repr

/-- VIEW_BASE (R115). -/
def viewBase (f : Frame) : BaseView :=
  { sync1 := f[0], sync2 := f[1], hdr := f[2], seq := seqOf f[2], length := lengthOf f[2], org := f[3],
    db3 := f[4], db2 := f[5], db1 := f[6], db0 := f[7], id3 := f[8], id2 := f[9], id1 := f[10],
    id0 := f[11], status := f[12], checksum := f[13] }

/-- VIEW_EXT (R116). -/
def viewExt (f : Frame) : ExtView :=
  { sync1 := f[0], sync2 := f[1], hdr := f[2], org := f[3], xdb5 := f[4], xdb4 := f[5], xdb3 := f[6],
    xdb2 := f[7], xdb1 := f[8], xdb0 := f[9], xaddr := f[10] ++ f[11], status := f[12], checksum := f[13] }

/-- VIEW_MACK (R117). -/
def viewMack (f : Frame) : MackView :=
  { sync1 := f[0], sync2 := f[1], hdr := f[2], org := f[3], maddr := f[4] ++ f[5], mpad5 := f[6],
    mpad4 := f[7], mpad3 := f[8], mpad2 := f[9], mpad1 := f[10], mpad0 := f[11], status := f[12],
    checksum := f[13] }

/-- The frame an EXT view is of (R119 (g): a view determines the frame). -/
def frameOfExt (v : ExtView) : Frame :=
  #v[v.sync1, v.sync2, v.hdr, v.org, v.xdb5, v.xdb4, v.xdb3, v.xdb2, v.xdb1, v.xdb0,
     v.xaddr.extractLsb' 8 8, v.xaddr.extractLsb' 0 8, v.status, v.checksum]

/-- The frame a MACK view is of, padding included (R119 (g)). -/
def frameOfMack (v : MackView) : Frame :=
  #v[v.sync1, v.sync2, v.hdr, v.org, v.maddr.extractLsb' 8 8, v.maddr.extractLsb' 0 8, v.mpad5,
     v.mpad4, v.mpad3, v.mpad2, v.mpad1, v.mpad0, v.status, v.checksum]

/-- The one-byte fields of the three views (R70, R72, R73). -/
inductive Field where
  | sync1 | sync2 | hdr | org | db3 | db2 | db1 | db0 | id3 | id2 | id1 | id0 | status | checksum
  | xdb5 | xdb4 | xdb3 | xdb2 | xdb1 | xdb0 | xaddr1 | xaddr0
  | maddr1 | maddr0 | mpad5 | mpad4 | mpad3 | mpad2 | mpad1 | mpad0
deriving DecidableEq, Repr

/-- The frame offset of a field (R70, R72, R73); fields of equal offset alias (R116, R117). -/
def fieldOffset : Field → Fin frameLen
  | .sync1 => 0 | .sync2 => 1 | .hdr => 2 | .org => 3
  | .db3 => 4 | .db2 => 5 | .db1 => 6 | .db0 => 7
  | .id3 => 8 | .id2 => 9 | .id1 => 10 | .id0 => 11 | .status => 12 | .checksum => 13
  | .xdb5 => 4 | .xdb4 => 5 | .xdb3 => 6 | .xdb2 => 7 | .xdb1 => 8 | .xdb0 => 9
  | .xaddr1 => 10 | .xaddr0 => 11
  | .maddr1 => 4 | .maddr0 => 5
  | .mpad5 => 6 | .mpad4 => 7 | .mpad3 => 8 | .mpad2 => 9 | .mpad1 => 10 | .mpad0 => 11

/-- Reading a field through its view. -/
def readField (f : Frame) (x : Field) : Byte := f[(fieldOffset x).val]

/-- Writing a field through its view: a one-byte store at its offset; the checksum is not
updated (R118 (a), R253). -/
def writeField (f : Frame) (x : Field) (v : Byte) : Frame := f.set (fieldOffset x).val v

/-- Writing SEQ alone: a read-modify-write of F[2] that keeps LENGTH (R118 (a)). -/
def writeSeq (f : Frame) (v : BitVec 3) : Frame := f.set 2 (v ++ lengthOf f[2])

/-- Writing LENGTH alone: a read-modify-write of F[2] that keeps SEQ (R118 (a)). -/
def writeLength (f : Frame) (v : BitVec 5) : Frame := f.set 2 (seqOf f[2] ++ v)

/-- RENDER (R118 (b)): the spec defines no format; an uninterpreted text (notes/assumptions/19.md). -/
def renderFrame (f : Frame) : String := Config.render f

end Sys2Proof.Machine
end

