-- ==== Sys2Proof/Machine/Trace.lean ====
section
/-! DEFINITION. Traces (30_encoding.md R94, R95): a run of the block is a list of operations; the
pseudo-operations are lists of operations; the text of one trace line. -/

namespace Sys2Proof.Machine

/-- `RX b0 b1 ... bk` (R95). -/
def traceRx (bytes : List Byte) : List Instr := bytes.map Instr.rxb

/-- `RXFRAME F` (R95): RX of the fourteen bytes in offset order (R131). -/
def traceRxFrame (f : Frame) : List Instr := traceRx (wireBytes f)

/-- The frame of `RXTEL hdr org d3 d2 d1 d0 i3 i2 i1 i0 st` (R95): sealed, so its checksum is correct. -/
def telFrame (p : Params) (hdr org d3 d2 d1 d0 i3 i2 i1 i0 st : Byte) : Frame :=
  sealFrame #v[p.sync1, p.sync2, hdr, org, d3, d2, d1, d0, i3, i2, i1, i0, st, 0]

/-- `RXTEL` (R95). -/
def traceRxTel (p : Params) (hdr org d3 d2 d1 d0 i3 i2 i1 i0 st : Byte) : List Instr :=
  traceRxFrame (telFrame p hdr org d3 d2 d1 d0 i3 i2 i1 i0 st)

/-- `DRAINALL` (R95) on a queue of n frames: DRAIN until it returns TX_EMPTY, that one included. -/
def traceDrainAll (n : Nat) : List Instr := List.replicate (n + 1) .drain

/-- `OPEN` (R95): what a host does at every connection (R245). -/
def traceOpen : List Instr := [.reopen, .qbase]

/-- A trace performed from a state: the state after it and the outcome events of its operations, in the
order emitted. -/
def traceRun : List Instr → State → Host.Outcome (State × List Event) Fault Refusal
  | [], s => .next (s, [])
  | i :: rest, s =>
    match exec i s with
    | .next s1 =>
      match traceRun rest s1 with
      | .next (s2, es) => .next (s2, s1.events ++ es)
      | .fault r => .fault r
      | .refused r => .refused r
    | .fault r => .fault r
    | .refused r => .refused r

/-- A byte in a trace line: hexadecimal with 0x (R94). -/
def byteText (b : Byte) : String :=
  "0x" ++ String.ofList [hexDigit (b.extractLsb' 4 4), hexDigit (b.extractLsb' 0 4)]

/-- A 32-bit identifier in a trace line (R94). -/
def idText (v : NodeId) : String := "0x" ++ String.ofList (hexDigits v)

/-- A command in a trace line (R94). -/
def cmdText : Cmd → String
  | .off => "OFF"
  | .on => "ON"
  | .setLevel => "SET"

/-- The trace line of a port operation in the notation of R94; the frame rows have none. -/
def traceLine : Instr → Option String
  | .por => some "POR"
  | .reopen => some "REOPEN"
  | .rxb b => some ("RXB " ++ byteText b)
  | .drain => some "DRAIN"
  | .qbase => some "QBASE"
  | .qver => some "QVER"
  | .qreset => some "QRESET"
  | .switch id unit cmd level isDimmer lastLevel =>
    some ("SWITCH id=" ++ idText id ++ " unit=" ++ toString unit.toNat ++ " cmd=" ++ cmdText cmd ++ " level=" ++
      toString level.toNat ++ " dimmer=" ++ (if isDimmer then "1" else "0") ++ " last=" ++ toString lastLevel.toNat)
  | .teach id => some ("TEACH id=" ++ idText id)
  | .fRdIdbase => none
  | .fRdSwVer => none
  | .fReset => none
  | .fRpsPress _ _ _ => none
  | .fRpsRelease _ _ => none
  | .f4bsDim _ _ => none
  | .f4bsTeach _ => none
  | .rxAckIdBaseOk _ => none
  | .rxAckNotWantedAck _ => none
  | .rxAckNotAck _ => none
  | .rxAckDuplicateId _ => none
  | .rxAckErrHeaderSeq _ => none
  | .rxAckErrLength _ => none
  | .rxAckErrChecksum _ => none
  | .rxAckErrType _ => none
  | .rxAckErrTxIdrange _ => none
  | .rxAckErrIdrange _ => none
  | .rxAckUnknown _ => none
  | .rxBaseid _ => none
  | .rxRps _ => none
  | .rx4bs _ => none
  | .rxOther _ => none

end Sys2Proof.Machine
end

