-- ==== Sys2Proof/Safety.lean ====
section
/-! DEFINITION. What a good state is, in the terms the claims use: the invariants of the receive state
machine (10_state.md R26, 41_receive.md R137) and of the outbound queue (43_command_builder.md R184). -/

namespace Sys2Proof.Safety

open Sys2Proof.Machine

/-! ## What a delivery and a command are expected to report -/

/-- The one event that follows FRAME_OK, by class (42_dispatch.md R154). -/
def followUp (cls : FrameClass) (f : Frame) : Event :=
  match cls with
  | .ack n => .ack n
  | .baseId => .baseIdSet (baseVal f)
  | .rps => .toInterpreter f
  | .fourBs => .toInterpreter f
  | .other => .diag f

/-- BASE_ID after a delivery, by class (R154, R155): only C_BASEID writes it. -/
def capturedBase (cls : FrameClass) (f : Frame) (old : NodeId) : NodeId :=
  if cls = .baseId then baseVal f else old

/-- The code of a name in ACK_TABLE (30_encoding.md R84). -/
def ackCodeOf (t : AckTable) : AckName → Byte
  | .idBaseOk => t.idBaseOk
  | .notWantedAck => t.notWantedAck
  | .notAck => t.notAck
  | .duplicateId => t.duplicateId
  | .errHeaderSeq => t.errHeaderSeq
  | .errLength => t.errLength
  | .errChecksum => t.errChecksum
  | .errType => t.errType
  | .errTxIdrange => t.errTxIdrange
  | .errIdrange => t.errIdrange

/-- The four identifier bytes and the rest of a frame SWITCH or TEACH builds (30_encoding.md R85), sealed:
type byte, data bytes DB3..DB0, identifier, status. -/
def sealedRadioFrame (p : Params) (org d3 d2 d1 d0 : Byte) (id : NodeId) (st : Byte) : Frame :=
  sealFrame #v[p.sync1, p.sync2, p.hdrRadioTx, org, d3, d2, d1, d0, id.extractLsb' 24 8, id.extractLsb' 16 8,
    id.extractLsb' 8 8, id.extractLsb' 0 8, st, 0]

/-- A query frame (R85): every data, identifier and status byte zero, the checksum HDR_BUILD + type. -/
def zeroPayloadFrame (p : Params) (org : Byte) : Frame :=
  #v[p.sync1, p.sync2, hdrBuild p, org, 0, 0, 0, 0, 0, 0, 0, 0, 0, hdrBuild p + org]

/-- TXQ has at least n free places (43_command_builder.md R182). -/
def hasRoom (n : Nat) (s : State) : Prop := ∀ d, s.params.txqDepth = some d → s.txq.length + n ≤ d

/-- The identifier lies in the window above BASE_ID (R173). -/
def idInWindow (s : State) (id : NodeId) : Prop :=
  s.baseId.toNat < id.toNat ∧ id.toNat ≤ s.baseId.toNat + s.params.baseSpan

/-- RXBUF has its RXBUF_CAP registers (10_state.md R20, R22). -/
def bufferSized (s : State) : Prop := s.rxbuf.length = s.params.rxbufCap

/-- `pc = (AwaitSync1, 0)`, in a state whose RXBUF has its registers. -/
def atStart (s : State) : Prop := s.rxstate = .awaitSync1 ∧ s.cursor = 0 ∧ bufferSized s

/-- A well-formed frame in D0's sense (41_receive.md R142 (a)): synchronisation bytes, checksum, and the
length of a fourteen-byte frame: under the masks of R6 the length nibble 0xB, under any P of R7 the masked
header LEN_FIXED. -/
def wellFramed (p : Params) (f : Frame) : Prop :=
  f[0] = p.sync1 ∧ f[1] = p.sync2 ∧ f[2] &&& p.lenMask = p.lenFixed ∧ valid f = true

/-! ## Invariants -/

/-- R26 (d): the header part of the buffer is that of the frame being received, and WANTED is the
length its header byte asks for. -/
def headerStored (s : State) : Prop :=
  3 ≤ s.wanted.toNat ∧ s.wanted.toNat ≤ 18 ∧ reg s.rxbuf 0 = s.params.sync1 ∧ reg s.rxbuf 1 = s.params.sync2 ∧
    s.wanted.toNat = (reg s.rxbuf 2 &&& 0x0F).toNat + 3

/-- R26 (a) to (d), with the size of RXBUF. -/
def receiverInv (s : State) : Prop :=
  bufferSized s ∧
  match s.rxstate with
  | .awaitSync1 => s.cursor = 0
  | .awaitSync2 => s.cursor = 0
  | .readingHeader => s.cursor = 0
  | .readingBody =>
    3 ≤ s.cursor.toNat ∧ (s.cursor.toNat + 1 < s.wanted.toNat ∨ s.cursor.toNat = 3) ∧ s.cursor.toNat ≤ 16 ∧
      headerStored s
  | .readingChecksum => s.cursor.toNat = max (s.wanted.toNat - 1) 4 ∧ headerStored s

/-- What keeps every store inside RXBUF (41_receive.md R137, 10_state.md R24), for any P of R7: CURSOR is 0
outside a frame; inside one it is short of WANTED, or at its first or last place, and WANTED is at most
RXBUF_CAP. -/
def boundsInv (s : State) : Prop :=
  bufferSized s ∧
  match s.rxstate with
  | .awaitSync1 => s.cursor = 0
  | .awaitSync2 => s.cursor = 0
  | .readingHeader => s.cursor = 0
  | .readingBody =>
    3 ≤ s.cursor.toNat ∧ (s.cursor.toNat + 1 < s.wanted.toNat ∨ s.cursor.toNat = 3) ∧
      s.wanted.toNat ≤ s.params.rxbufCap
  | .readingChecksum =>
    s.cursor.toNat = max (s.wanted.toNat - 1) 4 ∧ s.wanted.toNat ≤ s.params.rxbufCap

/-- The two length parameters have the values D0 states (R6: LEN_MASK 0x0F, LEN_BIAS 3), and P meets R7. -/
def standardLengths (p : Params) : Prop := paramsOk p = true ∧ p.lenMask = 0x0F ∧ p.lenBias = 3

/-- A frame is of one of the kinds of R85 that carry a node identifier (43_command_builder.md R184 (d)),
the identifier being `id`. -/
def radioKind (p : Params) (id : NodeId) (f : Frame) : Prop :=
  (∃ rid ud, f = rpsPressFrame p rid ud id) ∨ (∃ rid, f = rpsReleaseFrame p rid id) ∨
    (∃ pct : Byte, pct.toNat ≤ p.levelMax.toNat ∧ f = dimFrame p pct id) ∨ f = teachFrame p id

/-- A frame is of one of the three query kinds of R85. -/
def queryKind (p : Params) (f : Frame) : Prop :=
  f = queryFrame p p.orgRdIdbase ∨ f = queryFrame p p.orgRdSwVer ∨ f = queryFrame p p.orgReset

/-- A frame is of one of the seven kinds the block builds (R85). -/
def builtKind (p : Params) (f : Frame) : Prop := queryKind p f ∨ ∃ id, radioKind p id f

/-- R184 (a), for one queue entry. -/
def goodEntry (p : Params) (f : Frame) : Prop :=
  valid f = true ∧ f[0] = p.sync1 ∧ f[1] = p.sync2 ∧ f[2] &&& p.lenMask = p.lenFixed ∧ builtKind p f

/-- R184 (a), for the whole queue, and its bound (10_state.md R20: 0..TXQ_DEPTH entries). -/
def queueInv (s : State) : Prop :=
  (∀ f ∈ s.txq, goodEntry s.params f) ∧ ∀ d, s.params.txqDepth = some d → s.txq.length ≤ d

end Sys2Proof.Safety
end

