-- ==== Sys2Proof/Certificates/Slice0/Obligations.lean ====
section
/-! DEFINITION. The statements for the provers. -/

open Sys2Proof Sys2Proof.Machine Sys2Proof.Safety

/-! ## Fetching, decoding, encoding -/

/-- A step performs the decoded operation: with the configuration of R7 and a word waiting that decodes
to i, the step is exec of i on the state with that word taken away (R57, R91, R96). -/
def Obligations.StepRunsTheDecodedInstruction : Prop :=
  ∀ (s : State) (w : FetchWord) (rest : List FetchWord) (i : Instr),
    paramsOk s.params = true → s.pending = w :: rest → decode s.params w = .ok i →
      step s = exec i { s with pending := rest }

/-- A word of the opcode table placed by withFetchWord is what the next step runs, on the state as it
was: under the default P the instruction decodeTableWord reads, and under any P of R7 the one its
placed form decodes to (notes/assumptions/7.md and 13.md: the model's interface, not a rule of the spec). -/
def Obligations.PlacedTableWordRunsNext : Prop :=
  (∀ (s : State) (nbits w : Nat) (i : Instr), s.params = defaultParams → decodeTableWord nbits w = some i →
    step (s.withFetchWord nbits w) = exec i s) ∧
  (∀ (s : State) (nbits w : Nat) (fw : FetchWord) (i : Instr), paramsOk s.params = true →
    tableFetchWord s.params nbits w = some fw → decode s.params fw = .ok i →
      step (s.withFetchWord nbits w) = exec i s) ∧
  (∀ (s : State) (w : Nat), paramsOk s.params = true → w < 2 ^ 112 →
    ∃ i : Instr, step (s.withFetchWord 112 w) = exec i s)

/-- R93: a reserved event word, or SWITCH with cmd = 3, is answered with CMD_ERR(E_BADREQ) and changes no
state of the block. -/
def Obligations.ReservedEventWordsAnswerBadRequest : Prop :=
  ∀ (s : State) (op : BitVec 4) (payload : BitVec 64) (rest : List FetchWord),
    paramsOk s.params = true → s.pending = .event (op ++ payload) :: rest →
    ((4 ≤ op.toNat ∧ op.toNat ≤ 7) ∨ 13 ≤ op.toNat ∨ (op = 0xB ∧ payload.extractLsb' 62 2 = 3)) →
      step s = .next { s with pending := rest, events := [.cmdErr .badReq] }

/-- R91, R92: the operation of an event word is selected by its top four bits, its operands are the
payload's fields, the payload bits marked ignored may hold anything, and the reserved words are no
operation. -/
def Obligations.EventWordsDecodeByTheirFields : Prop :=
  ∀ payload : BitVec 64,
    decodeEvent (0x0#4 ++ payload) = .ok .por ∧ decodeEvent (0x1#4 ++ payload) = .ok .reopen ∧
    decodeEvent (0x2#4 ++ payload) = .ok (.rxb (payload.extractLsb' 0 8)) ∧
    decodeEvent (0x3#4 ++ payload) = .ok .drain ∧ decodeEvent (0x8#4 ++ payload) = .ok .qbase ∧
    decodeEvent (0x9#4 ++ payload) = .ok .qver ∧ decodeEvent (0xA#4 ++ payload) = .ok .qreset ∧
    (∀ cmd : Cmd, payload.extractLsb' 62 2 = cmdCode cmd →
      decodeEvent (0xB#4 ++ payload) =
        .ok (.switch (payload.extractLsb' 0 32) (payload.extractLsb' 48 8) cmd (payload.extractLsb' 40 8)
          (payload.getLsbD 61) (payload.extractLsb' 32 8))) ∧
    decodeEvent (0xC#4 ++ payload) = .ok (.teach (payload.extractLsb' 0 32)) ∧
    (payload.extractLsb' 62 2 = 3 → decodeEvent (0xB#4 ++ payload) = .error .reservedEvent) ∧
    (∀ op : BitVec 4, (4 ≤ op.toNat ∧ op.toNat ≤ 7) ∨ 13 ≤ op.toNat →
      decodeEvent (op ++ payload) = .error .reservedEvent)

/-- Every well-formed instruction decodes from its encoding, with every operand at every value, under the
P for which the table is computed (R96). -/
def Obligations.EncodedInstructionsDecodeBack : Prop :=
  ∀ i : Instr, i.wellFormed defaultParams = true → decode defaultParams (encode defaultParams i) = .ok i

/-- R96, direction received: the class the decoder gives a frame word is the first row of the table the
word is of. -/
def Obligations.ReceivedWordsFollowTheTable : Prop :=
  ∀ w : BitVec 112, rowOf receivedRows w = some (mnemonicOf (decodeReceived defaultParams (frameOfWord w)))

/-- R96, direction built and the event words: a word the decoder accepts is of its instruction's row, and
a frame word it refuses is of no row. By which bits a built frame is decoded is the model's choice
(notes/assumptions/12.md). -/
def Obligations.BuiltAndEventWordsFollowTheTable : Prop :=
  (∀ (w : BitVec 112) (i : Instr), decodeBuilt defaultParams (frameOfWord w) = .ok i →
      rowOf builtRows w = some (mnemonicOf i)) ∧
  (∀ w : BitVec 112, decodeBuilt defaultParams (frameOfWord w) = .error .noBuiltKind → rowOf builtRows w = none) ∧
  (∀ (w : BitVec 68) (i : Instr), decodeEvent w = .ok i → rowOf eventRows w = some (mnemonicOf i))

/-- A few words written out from the spec's tables decode to the instructions they stand for (R85, R92,
R96); which direction a frame word is taken in is the model's choice (notes/assumptions/13.md). -/
def Obligations.WrittenWordsDecode : Prop :=
  decodeTableWord 72 0xB400100000000FF01 = some (.switch 0x0000FF01 1 .on 0 false 0) ∧
  decodeTableWord 72 0x2000000000000005A = some (.rxb 0x5A) ∧
  decodeTableWord 112 0xA55A8B58000000000000000000E3 = some .fRdIdbase ∧
  decodeTableWord 112 0xA55A8B05700000000000FF013030 = some (.fRpsPress 1 1 0x0000FF01) ∧
  decodeTableWord 72 0xD0000000000000000 = none ∧
  decodeTableWord 112 0xA55A0B98FF800000000000000022 =
    some (.rxBaseid #v[0xA5, 0x5A, 0x0B, 0x98, 0xFF, 0x80, 0, 0, 0, 0, 0, 0, 0, 0x22])

/-- R7 (with R83 and R84): a configuration that breaks a constraint is refused; a word that is of no
built kind is refused by name (notes/assumptions/15.md and 16.md). -/
def Obligations.BadConfigurationAndUnknownKindAreRefused : Prop :=
  (∀ s : State, paramsOk s.params = false → step s = .refused .badConfig) ∧
  (∀ (s : State) (w : BitVec 112) (rest : List FetchWord), paramsOk s.params = true →
    s.pending = .built w :: rest → decodeBuilt s.params (frameOfWord w) = .error .noBuiltKind →
      step s = .refused .noBuiltKind)

/-! ## Reset -/

/-- R240 with the column "after POR" of R36: in any state pc, BASE_ID and TXQ take their values, no event
is emitted, and RXBUF, of RXBUF_CAP bytes, and WANTED take values of which nothing is said; n is the
model's own counter of resets, and the model's own configuration and list of operations to come stay. -/
def Obligations.PowerOnResetResult : Prop :=
  ∀ s : State, ∃ (x : RxBuf) (w : BitVec 5) (n : Nat), x.length = s.params.rxbufCap ∧ exec .por s = .next
    { s with
      rxstate := .awaitSync1, cursor := 0, baseId := 0, txq := [], events := [], rxbuf := x, wanted := w, fresh := n }

/-- R36, column "after POR": the values the spec gives hold at State.reset. -/
def Obligations.ResetStateHasTheStatedValues : Prop :=
  State.reset.rxstate = .awaitSync1 ∧ State.reset.cursor = 0 ∧ State.reset.baseId = 0 ∧ State.reset.txq = []

/-- R141: REOPEN resets pc and BASE_ID; RXBUF, WANTED, TXQ and everything else stay; no event. -/
def Obligations.ReopenResult : Prop :=
  ∀ s : State, exec .reopen s = .next { s with rxstate := .awaitSync1, cursor := 0, baseId := 0, events := [] }

/-! ## The receive state machine, state by state -/

/-- R132: in AwaitSync1 the byte advances the machine exactly when it is SYNC1; nothing is stored and no
event is emitted. -/
def Obligations.ByteInAwaitSync1 : Prop :=
  ∀ (s : State) (b : Byte), s.rxstate = .awaitSync1 →
    exec (.rxb b) s = .next
      { s with
        rxstate := if b = s.params.sync1 then .awaitSync2 else .awaitSync1, cursor := 0, events := [] }

/-- R133: in AwaitSync2 the byte advances the machine exactly when it is SYNC2, and any other byte, SYNC1
included, drops it back. -/
def Obligations.ByteInAwaitSync2 : Prop :=
  ∀ (s : State) (b : Byte), s.rxstate = .awaitSync2 →
    exec (.rxb b) s = .next
      { s with
        rxstate := if b = s.params.sync2 then .readingHeader else .awaitSync1, cursor := 0, events := [] }

/-- R134, R78: the header byte writes x[0..2], WANTED and pc. With the LEN_MASK and LEN_BIAS of R6 the
wanted length is at most 18; that one above 31 is reduced to the 5 bits of WANTED is the model's reading of
R8 and R27 (notes/assumptions/28.md). -/
def Obligations.ByteInReadingHeader : Prop :=
  ∀ (s : State) (b : Byte), s.rxstate = .readingHeader →
    ∃ w : BitVec 5, w.toNat = ((b &&& s.params.lenMask).toNat + s.params.lenBias) % 32 ∧
      exec (.rxb b) s = .next
        { s with
          rxbuf := ((s.rxbuf.set 0 s.params.sync1).set 1 s.params.sync2).set 2 b,
          wanted := w, rxstate := .readingBody, cursor := 3, events := [] }

/-- R135: a body byte is stored at CURSOR, CURSOR advances, and the state becomes ReadingChecksum when the
advanced CURSOR is at least WANTED - 1. The hypotheses are R137, that the register exists, and R24, that
CURSOR does not wrap; EveryStepStoresInsideTheBuffer shows both. -/
def Obligations.ByteInReadingBody : Prop :=
  ∀ (s : State) (b : Byte), s.cursor.toNat < s.rxbuf.length → s.cursor.toNat < 31 → s.rxstate = .readingBody →
    exec (.rxb b) s = .next
      { s with
        rxbuf := s.rxbuf.set s.cursor.toNat b, cursor := s.cursor + 1, events := [],
        rxstate := if s.wanted.toNat - 1 ≤ s.cursor.toNat + 1 then .readingChecksum else .readingBody }

/-- R136 with R154: the checksum byte is stored; if CHK over the buffer is that byte, the fourteen bytes
x[0..13] are delivered, FRAME_OK is followed by the one event of their class, and BASE_ID is written
only for a base-ID info frame; else CHKERR. In both cases pc becomes (AwaitSync1, 0). The hypothesis on
CURSOR is R137. -/
def Obligations.ByteInReadingChecksum : Prop :=
  ∀ (s : State) (b : Byte), s.cursor.toNat < s.rxbuf.length → s.rxstate = .readingChecksum →
    let x : RxBuf := s.rxbuf.set s.cursor.toNat b
    let cls := classify s.params (frameOf x)
    (bufChk x = b → exec (.rxb b) s = .next
      { s with
        rxbuf := x, rxstate := .awaitSync1, cursor := 0,
        baseId := capturedBase cls (frameOf x) s.baseId,
        events := [.frameOk (frameOf x) cls, followUp cls (frameOf x)] }) ∧
    (bufChk x ≠ b → exec (.rxb b) s = .next
      { s with rxbuf := x, rxstate := .awaitSync1, cursor := 0, events := [.chkErr] })

/-- R26: the invariants (a) to (d) hold after POR, and every step keeps them. -/
def Obligations.EveryStepKeepsTheReceiverInvariant : Prop :=
  (∀ s t : State, exec .por s = .next t → receiverInv t) ∧
  (∀ s t : State, standardLengths s.params → receiverInv s → step s = .next t →
    standardLengths t.params ∧ receiverInv t)

/-- The receiver invariant of R26 holds at State.reset, whose parameters are standard, and so does the
invariant behind R137. -/
def Obligations.ReceiverInvariantHoldsAtReset : Prop :=
  standardLengths State.reset.params ∧ receiverInv State.reset ∧ boundsInv State.reset

/-- R137 and the end of R24, for every P of R7: RXBUF keeps its RXBUF_CAP registers, and wherever a byte is
stored at CURSOR that register exists and CURSOR does not wrap; every step keeps what this rests on. -/
def Obligations.EveryStepStoresInsideTheBuffer : Prop :=
  (∀ s t : State, boundsInv s → step s = .next t → t.params = s.params ∧ boundsInv t) ∧
  (∀ s t : State, exec .por s = .next t → boundsInv t) ∧
  (∀ s : State, paramsOk s.params = true → boundsInv s → s.rxstate = .readingBody ∨ s.rxstate = .readingChecksum →
    s.cursor.toNat < s.rxbuf.length ∧ s.cursor.toNat < 31)

/-- R142 (a): a well-formed frame fed byte by byte from (AwaitSync1, 0) yields exactly one decoded frame,
byte-identical to the input, followed by the one event of its class, and ends in (AwaitSync1, 0). -/
def Obligations.WellFormedFrameYieldsItselfOnce : Prop :=
  ∀ (s : State) (f : Frame), paramsOk s.params = true → atStart s → wellFramed s.params f →
    ∃ t : State,
      traceRun (traceRxFrame f) s = .next (t, [.frameOk f (classify s.params f), followUp (classify s.params f) f]) ∧
      atStart t ∧ frameOf t.rxbuf = f ∧ t.wanted = 14 ∧
      t.baseId = capturedBase (classify s.params f) f s.baseId ∧ t.txq = s.txq

/-- R142 (b): a well-formed frame with exactly one byte changed at an offset in 3..13, or at offset 2
keeping the masked length, yields exactly one CHKERR and no frame, and the machine is ready again. -/
def Obligations.SingleByteCorruptionIsOneChecksumError : Prop :=
  ∀ (s : State) (f : Frame) (k : Nat) (hk : k < 14) (v : Byte),
    paramsOk s.params = true → atStart s → wellFramed s.params f → v ≠ f[k] →
    (3 ≤ k ∨ (k = 2 ∧ v &&& s.params.lenMask = s.params.lenFixed)) →
      ∃ t : State, traceRun (traceRxFrame (f.set k v hk)) s = .next (t, [.chkErr]) ∧ atStart t ∧
        t.baseId = s.baseId ∧ t.txq = s.txq

/-- R142 (c): bytes that leave the machine in (AwaitSync1, 0) having emitted nothing do not disturb the
frame that follows them; bytes without SYNC1 are such bytes. -/
def Obligations.GarbageIsDiscardedBeforeAFrame : Prop :=
  (∀ (s u : State) (g : List Byte) (f : Frame), paramsOk s.params = true → atStart s →
      traceRun (traceRx g) s = .next (u, []) → atStart u → wellFramed s.params f →
      ∃ t : State, traceRun (traceRx g ++ traceRxFrame f) s =
          .next (t, [.frameOk f (classify s.params f), followUp (classify s.params f) f]) ∧ atStart t) ∧
  (∀ (s : State) (g : List Byte), atStart s → s.params.sync1 ∉ g →
      ∃ u : State, traceRun (traceRx g) s = .next (u, []) ∧ atStart u ∧ u.rxbuf = s.rxbuf)

/-- R138 to R140, R34: for every header byte h and the body of the length R139 gives it, the frame consumes
max(WANTED, 5) bytes, which stand in RXBUF from x[0] on, in the order received, with the bytes of before
behind them; it ends in exactly one of FRAME_OK and CHKERR, decided by the sum over the buffer, stale bytes
included; and BASE_ID is the captured one or as before. WANTED is reduced to 5 bits
(notes/assumptions/28.md). -/
def Obligations.EveryFrameEndsInExactlyOneOutcome : Prop :=
  ∀ (s : State) (h c : Byte) (body : List Byte), paramsOk s.params = true → atStart s →
    let wanted := ((h &&& s.params.lenMask).toNat + s.params.lenBias) % 32
    let bytes := s.params.sync1 :: s.params.sync2 :: h :: (body ++ [c])
    body.length = max 1 (wanted - 4) →
    bytes.length = max wanted 5 ∧
    ∃ (t : State) (es : List Event),
      traceRun (traceRx bytes) s = .next (t, es) ∧ atStart t ∧ t.wanted.toNat = wanted ∧ t.txq = s.txq ∧
      t.rxbuf = bytes ++ s.rxbuf.drop (max wanted 5) ∧
      (bufChk t.rxbuf = c →
        es = [.frameOk (frameOf t.rxbuf) (classify s.params (frameOf t.rxbuf)),
          followUp (classify s.params (frameOf t.rxbuf)) (frameOf t.rxbuf)] ∧
        t.baseId = capturedBase (classify s.params (frameOf t.rxbuf)) (frameOf t.rxbuf) s.baseId) ∧
      (bufChk t.rxbuf ≠ c → es = [.chkErr] ∧ t.baseId = s.baseId)

/-- R142 (e): from any state that meets the invariant of R26, at most 17 further bytes bring the machine out
of ReadingBody and ReadingChecksum. -/
def Obligations.FrameInProgressEndsWithinSeventeenBytes : Prop :=
  ∀ (s : State) (bytes : List Byte), standardLengths s.params → receiverInv s → bytes.length = 17 →
    ∃ (k : Nat) (t : State) (es : List Event), k ≤ 17 ∧
      traceRun (traceRx (bytes.take k)) s = .next (t, es) ∧
      (t.rxstate = .awaitSync1 ∨ t.rxstate = .awaitSync2 ∨ t.rxstate = .readingHeader)

/-- R251, R133: SYNC1 SYNC1 SYNC2 does not synchronise (where the two bytes differ). -/
def Obligations.RepeatedSync1DoesNotSynchronise : Prop :=
  ∀ s : State, atStart s → s.params.sync1 ≠ s.params.sync2 →
    traceRun (traceRx [s.params.sync1, s.params.sync1, s.params.sync2]) s = .next ({ s with events := [] }, [])

/-! ## Dispatch -/

/-- R150 (R86, R151): the class of a frame: acknowledgement shape first, then the telegram type. -/
def Obligations.ClassOfAFrame : Prop :=
  ∀ (p : Params) (f : Frame), paramsOk p = true →
    (hdrOf f = p.hdrAck → ∀ n, orgOf f = ackCodeOf p.ackTable n → classify p f = .ack (.known n)) ∧
    (hdrOf f = p.hdrAck → (∀ n, orgOf f ≠ ackCodeOf p.ackTable n) → p.ackSwallowUnknown = true →
      classify p f = .ack .unknownCode) ∧
    ((hdrOf f ≠ p.hdrAck ∨ ((∀ n, orgOf f ≠ ackCodeOf p.ackTable n) ∧ p.ackSwallowUnknown = false)) →
      (orgOf f = p.orgInfIdbase → classify p f = .baseId) ∧
      (orgOf f = p.orgRps → classify p f = .rps) ∧
      (orgOf f = p.org4bs → classify p f = .fourBs) ∧
      (orgOf f ≠ p.orgInfIdbase → orgOf f ≠ p.orgRps → orgOf f ≠ p.org4bs → classify p f = .other))

/-- The eleven acknowledgement rows of the table (R152, R153) performed: FRAME_OK, then ACK with the row's
name, and nothing else. That a row is performed as the delivery of its frame is the model's choice
(notes/assumptions/11.md). -/
def Obligations.AcknowledgementRowsOnlyReport : Prop :=
  ∀ (f : Frame) (s : State),
    let done (c : AckCode) : Host.Outcome State Fault Refusal :=
      .next { s with events := [.frameOk f (.ack c), .ack c] }
    exec (.rxAckIdBaseOk f) s = done (.known .idBaseOk) ∧
    exec (.rxAckNotWantedAck f) s = done (.known .notWantedAck) ∧
    exec (.rxAckNotAck f) s = done (.known .notAck) ∧
    exec (.rxAckDuplicateId f) s = done (.known .duplicateId) ∧
    exec (.rxAckErrHeaderSeq f) s = done (.known .errHeaderSeq) ∧
    exec (.rxAckErrLength f) s = done (.known .errLength) ∧
    exec (.rxAckErrChecksum f) s = done (.known .errChecksum) ∧
    exec (.rxAckErrType f) s = done (.known .errType) ∧
    exec (.rxAckErrTxIdrange f) s = done (.known .errTxIdrange) ∧
    exec (.rxAckErrIdrange f) s = done (.known .errIdrange) ∧
    exec (.rxAckUnknown f) s = done .unknownCode

/-- The row RX_BASEID performed (R155): BASE_ID takes DB3<<24 | DB2<<16 | DB1<<8 | DB0 whatever it was
before, and BASEID_SET reports it. That the row is performed as the delivery of its frame is the model's
choice (notes/assumptions/11.md). -/
def Obligations.BaseIdRowWritesBaseId : Prop :=
  ∀ (f : Frame) (s : State), ∃ v : NodeId,
    v.toNat = f[4].toNat * 2 ^ 24 + f[5].toNat * 2 ^ 16 + f[6].toNat * 2 ^ 8 + f[7].toNat ∧
    exec (.rxBaseid f) s = .next { s with baseId := v, events := [.frameOk f .baseId, .baseIdSet v] }

/-- The rows RX_RPS, RX_4BS and RX_OTHER performed (R156, R157): the frame is handed out and no state
changes. That a row is performed as the delivery of its frame is the model's choice
(notes/assumptions/11.md). -/
def Obligations.TelegramRowsHandTheFrameOut : Prop :=
  ∀ (f : Frame) (s : State),
    exec (.rxRps f) s = .next { s with events := [.frameOk f .rps, .toInterpreter f] } ∧
    exec (.rx4bs f) s = .next { s with events := [.frameOk f .fourBs, .toInterpreter f] } ∧
    exec (.rxOther f) s = .next { s with events := [.frameOk f .other, .diag f] }

/-- R136, R154: what RXB does on a matching checksum is what the delivered frame's own row does, and then
pc becomes (AwaitSync1, 0). -/
def Obligations.ChecksumMatchRunsTheClassRow : Prop :=
  ∀ (s : State) (b : Byte), s.cursor.toNat < s.rxbuf.length → s.rxstate = .readingChecksum →
    bufChk (s.rxbuf.set s.cursor.toNat b) = b →
    ∃ u : State,
      exec (decodeReceived s.params (frameOf (s.rxbuf.set s.cursor.toNat b)))
        { s with rxbuf := s.rxbuf.set s.cursor.toNat b } = .next u ∧
      exec (.rxb b) s = .next { u with rxstate := .awaitSync1, cursor := 0 }

/-! ## The command builder -/

/-- R174, R175, R176: each query enqueues its zero-payload frame, or fails as a whole when the queue is
full; nothing else changes. -/
def Obligations.QueriesEnqueueOneZeroPayloadFrame : Prop :=
  ∀ s : State,
    (hasRoom 1 s →
      exec .qbase s = .next
        { s with txq := s.txq ++ [zeroPayloadFrame s.params s.params.orgRdIdbase], events := [.cmdOk 1] } ∧
      exec .qver s = .next
        { s with txq := s.txq ++ [zeroPayloadFrame s.params s.params.orgRdSwVer], events := [.cmdOk 1] } ∧
      exec .qreset s = .next
        { s with txq := s.txq ++ [zeroPayloadFrame s.params s.params.orgReset], events := [.cmdOk 1] }) ∧
    (¬ hasRoom 1 s →
      exec .qbase s = .next { s with events := [.cmdErr .qFull] } ∧
      exec .qver s = .next { s with events := [.cmdErr .qFull] } ∧
      exec .qreset s = .next { s with events := [.cmdErr .qFull] })

/-- The three query rows of the table performed: the query's frame is enqueued (R85). That a built row is
performed as the build of its frame is the model's choice (notes/assumptions/10.md). -/
def Obligations.QueryRowsEnqueueTheirFrame : Prop :=
  ∀ s : State, hasRoom 1 s →
    exec .fRdIdbase s = .next
      { s with txq := s.txq ++ [zeroPayloadFrame s.params s.params.orgRdIdbase], events := [.cmdOk 1] } ∧
    exec .fRdSwVer s = .next
      { s with txq := s.txq ++ [zeroPayloadFrame s.params s.params.orgRdSwVer], events := [.cmdOk 1] } ∧
    exec .fReset s = .next
      { s with txq := s.txq ++ [zeroPayloadFrame s.params s.params.orgReset], events := [.cmdOk 1] }

/-- The four node rows of the table performed (R85): in the window of R173 and with room, the kind's frame
is enqueued, a dim level above LEVEL_MAX clamped. That a built row is performed as the build of its frame,
range test included, and the clamp, are the model's choices (notes/assumptions/10.md and 12.md). -/
def Obligations.NodeRowsEnqueueTheirFrame : Prop :=
  ∀ (s : State) (id : NodeId), idInWindow s id → hasRoom 1 s →
    (∀ (rid : BitVec 2) (ud : BitVec 1), exec (.fRpsPress rid ud id) s = .next
      { s with
        txq := s.txq ++
          [sealedRadioFrame s.params s.params.orgRps (rpsPack rid ud 1) 0 0 0 id s.params.statusPress],
        events := [.cmdOk 1] }) ∧
    (∀ rid : BitVec 2, exec (.fRpsRelease rid id) s = .next
      { s with
        txq := s.txq ++
          [sealedRadioFrame s.params s.params.orgRps (rpsPack rid 0 0) 0 0 0 id s.params.statusRelease],
        events := [.cmdOk 1] }) ∧
    (∀ pct : Byte, ∃ lv : Byte, lv.toNat = min pct.toNat s.params.levelMax.toNat ∧
      exec (.f4bsDim pct id) s = .next
        { s with
          txq := s.txq ++
            [sealedRadioFrame s.params s.params.org4bs s.params.dimMarker lv s.params.dimRamp
              (if lv = 0 then s.params.dimOff else s.params.dimOn) id s.params.status4bs],
          events := [.cmdOk 1] }) ∧
    exec (.f4bsTeach id) s = .next
      { s with
        txq := s.txq ++ [sealedRadioFrame s.params s.params.org4bs s.params.dimMarker 0 0 0 id s.params.status4bs],
        events := [.cmdOk 1] }

/-- A frame row of the table that its build operation turns away (R170, R173, R182) changes nothing and
reports why, the identifier range before the queue room. That a built row is performed as the build of its
frame is the model's choice (notes/assumptions/10.md). -/
def Obligations.FrameRowsTurnedAwayChangeNothing : Prop :=
  ∀ (s : State) (id : NodeId) (rid : BitVec 2) (ud : BitVec 1) (pct : Byte) (i : Instr),
    (i = .fRdIdbase ∨ i = .fRdSwVer ∨ i = .fReset → ¬ hasRoom 1 s →
      exec i s = .next { s with events := [.cmdErr .qFull] }) ∧
    (i = .fRpsPress rid ud id ∨ i = .fRpsRelease rid id ∨ i = .f4bsDim pct id ∨ i = .f4bsTeach id →
      (¬ idInWindow s id → exec i s = .next { s with events := [.cmdErr .idRange] }) ∧
      (idInWindow s id → ¬ hasRoom 1 s → exec i s = .next { s with events := [.cmdErr .qFull] }))

/-- R177, R180, R219: SWITCH reports the unit before the identifier range, and changes nothing. -/
def Obligations.SwitchValidationFailures : Prop :=
  ∀ (s : State) (id : NodeId) (unit : Byte) (cmd : Cmd) (level : Byte) (isDimmer : Bool) (last : Byte),
    (s.params.unitLimit ≤ unit.toNat →
      exec (.switch id unit cmd level isDimmer last) s = .next { s with events := [.cmdErr .unit] }) ∧
    (unit.toNat < s.params.unitLimit → ¬ idInWindow s id →
      exec (.switch id unit cmd level isDimmer last) s = .next { s with events := [.cmdErr .idRange] })

/-- R178: a valid ON or OFF to a target that is no dimmer enqueues a press frame and then a release frame
with the same rocker index, in one operation; nothing else changes. -/
def Obligations.RockerSwitchEnqueuesPressThenRelease : Prop :=
  ∀ (s : State) (id : NodeId) (unit : Byte) (cmd : Cmd) (level last : Byte),
    unit.toNat < s.params.unitLimit → idInWindow s id → cmd ≠ .setLevel →
    ∃ rid : BitVec 2, rid.toNat = (unit.toNat + 255) % 256 % 4 ∧
      (hasRoom 2 s → exec (.switch id unit cmd level false last) s = .next
        { s with
          txq := s.txq ++
            [sealedRadioFrame s.params s.params.orgRps (rpsPack rid (if cmd = .on then 1 else 0) 1) 0 0 0 id
              s.params.statusPress,
             sealedRadioFrame s.params s.params.orgRps (rpsPack rid 0 0) 0 0 0 id s.params.statusRelease],
          events := [.cmdOk 2] }) ∧
      (¬ hasRoom 2 s → exec (.switch id unit cmd level false last) s = .next
        { s with events := [.cmdErr .qFull] })

/-- R179: a valid request of the dim path enqueues one dim frame with the level SCALE gives (R89) and the
flag chosen by whether that level is zero; nothing else changes. -/
def Obligations.DimSwitchEnqueuesOneDimFrame : Prop :=
  ∀ (s : State) (id : NodeId) (unit : Byte) (cmd : Cmd) (level : Byte) (isDimmer : Bool) (last pct : Byte),
    unit.toNat < s.params.unitLimit → idInWindow s id → scale s.params cmd level last isDimmer = some pct →
      (hasRoom 1 s → exec (.switch id unit cmd level isDimmer last) s = .next
        { s with
          txq := s.txq ++
            [sealedRadioFrame s.params s.params.org4bs s.params.dimMarker pct s.params.dimRamp
              (if pct = 0 then s.params.dimOff else s.params.dimOn) id s.params.status4bs],
          events := [.cmdOk 1] }) ∧
      (¬ hasRoom 1 s → exec (.switch id unit cmd level isDimmer last) s = .next
        { s with events := [.cmdErr .qFull] })

/-- R89: the level of every request of the dim path. -/
def Obligations.ScaleGivesTheLevelOfEachRequest : Prop :=
  ∀ (p : Params) (level last : Byte),
    (∀ isDimmer, ∃ pct : Byte, scale p .setLevel level last isDimmer = some pct ∧
      pct.toNat = min p.levelMax.toNat (level.toNat * 100 / 15)) ∧
    (∃ pct : Byte, scale p .on level last true = some pct ∧ pct.toNat = min p.levelMax.toNat last.toNat) ∧
    scale p .off level last true = some 0

/-- R181: TEACH tests the identifier range, then the queue room, and enqueues one teach-in frame. -/
def Obligations.TeachEnqueuesOneTeachInFrame : Prop :=
  ∀ (s : State) (id : NodeId),
    (¬ idInWindow s id → exec (.teach id) s = .next { s with events := [.cmdErr .idRange] }) ∧
    (idInWindow s id → ¬ hasRoom 1 s → exec (.teach id) s = .next { s with events := [.cmdErr .qFull] }) ∧
    (idInWindow s id → hasRoom 1 s → exec (.teach id) s = .next
      { s with
        txq := s.txq ++ [sealedRadioFrame s.params s.params.org4bs s.params.dimMarker 0 0 0 id s.params.status4bs],
        events := [.cmdOk 1] })

/-- R173, R256: the window is (base, base + 128] on unbounded integers; near the top of the identifiers the
upper bound does not wrap. -/
def Obligations.IdentifierWindowDoesNotWrap : Prop :=
  ∀ (p : Params) (id base : NodeId), p.baseSpan = 128 →
    (inRange p id base = true ↔ base.toNat < id.toNat ∧ id.toNat ≤ base.toNat + 128) ∧
    (0xFFFFFF80 ≤ base.toNat → (inRange p id base = true ↔ base.toNat < id.toNat)) ∧
    inRange p base base = false

/-- R182, R216: an operation of the command agent that reports an error has changed nothing. -/
def Obligations.FailedCommandsChangeNothing : Prop :=
  ∀ (i : Instr) (s t : State) (c : ErrCode), i.agent = .command → exec i s = .next t → .cmdErr c ∈ t.events →
    t = { s with events := [.cmdErr c] }

/-- R184 (b): an operation of the command agent appends 0, 1 or 2 frames, and 0 exactly when it returns
CMD_ERR; otherwise CMD_OK says how many. -/
def Obligations.CommandsAppendNothingExactlyOnError : Prop :=
  ∀ (i : Instr) (s : State), i.agent = .command →
    ∃ (t : State) (new : List Frame), exec i s = .next t ∧ t.txq = s.txq ++ new ∧ new.length ≤ 2 ∧
      (new = [] → ∃ c, t.events = [.cmdErr c]) ∧ (new ≠ [] → t.events = [.cmdOk new.length])

/-- R184 (d): a frame that names a node, appended by an operation of the command agent, names a node that
lies in the window above the BASE_ID of that moment. -/
def Obligations.AppendedFramesNameNodesInTheWindow : Prop :=
  ∀ (i : Instr) (s t : State) (new : List Frame), i.agent = .command → exec i s = .next t →
    t.txq = s.txq ++ new →
      ∀ f ∈ new, queryKind s.params f ∨ ∃ id, idInWindow s id ∧ radioKind s.params id f ∧ nodeId f = id

/-- R184 (a), R200: every step keeps the queue good: each entry valid, with its synchronisation bytes and
length field, of one of the seven kinds of R85, and no more entries than TXQ_DEPTH. -/
def Obligations.EveryStepKeepsTheQueueInvariant : Prop :=
  ∀ s t : State, queueInv s → step s = .next t → t.params = s.params ∧ queueInv t

/-- The queue invariant holds at State.reset. -/
def Obligations.QueueInvariantHoldsAtReset : Prop := queueInv State.reset

/-- R178, R60: the two frames a rocker SWITCH appends are those its two frame rows append one after the
other, and nothing else of the state differs but the reported result. -/
def Obligations.RockerSwitchIsItsTwoFrameRows : Prop :=
  ∀ (s : State) (id : NodeId) (unit : Byte) (cmd : Cmd) (level last : Byte),
    unit.toNat < s.params.unitLimit → idInWindow s id → cmd ≠ .setLevel → hasRoom 2 s →
    ∃ u v : State,
      exec (.fRpsPress (rockerIndex unit) (upDown cmd) id) s = .next u ∧
      exec (.fRpsRelease (rockerIndex unit) id) u = .next v ∧
      exec (.switch id unit cmd level false last) s = .next { v with events := [.cmdOk 2] }

/-- R184 (e): a frame of a built kind, fed to the receiver from (AwaitSync1, 0), yields one FRAME_OK with
the same bytes. -/
def Obligations.BuiltFramesAreReceivedBack : Prop :=
  ∀ (s : State) (f : Frame), paramsOk s.params = true → atStart s → builtKind s.params f →
    ∃ t : State, traceRun (traceRxFrame f) s =
        .next (t, [.frameOk f (classify s.params f), followUp (classify s.params f) f]) ∧ atStart t

/-- R158 (a), R257: with HDR_BUILD and HDR_RADIO_TX equal to HDR_ACK, a frame the block built is
acknowledgement-shaped, so receiving it back cannot change BASE_ID. -/
def Obligations.EchoOfBuiltFramesIsSwallowed : Prop :=
  ∀ (p : Params) (f : Frame), paramsOk p = true → hdrBuild p = p.hdrAck → p.hdrRadioTx = p.hdrAck →
    p.ackSwallowUnknown = true → builtKind p f → ∃ c, classify p f = .ack c

/-! ## The outbound queue -/

/-- R202: DRAIN hands out and removes the head, or reports TX_EMPTY and changes nothing; successive DRAINs
hand out every queued frame once, in the order it was queued, and then TX_EMPTY. -/
def Obligations.DrainHandsOutTheQueueInOrder : Prop :=
  ∀ s : State,
    (s.txq = [] → exec .drain s = .next { s with events := [.txEmpty] }) ∧
    (∀ (f : Frame) (rest : List Frame), s.txq = f :: rest →
      exec .drain s = .next { s with txq := rest, events := [.tx f] }) ∧
    traceRun (traceDrainAll s.txq.length) s =
      .next ({ s with txq := [], events := [.txEmpty] }, s.txq.map Event.tx ++ [.txEmpty])

/-! ## Ownership and independence -/

/-- R222, R23, R28, R33: which operations may write which state, and what TXQ may become. The row RX_BASEID
as a writer of BASE_ID, and the grouping of the frame rows by agent, are the model's choices
(notes/assumptions/11.md and 18.md). -/
def Obligations.OnlyTheOwnersWrite : Prop :=
  ∀ (i : Instr) (s t : State), exec i s = .next t →
    (i.agent = .command → t = { s with txq := t.txq, events := t.events }) ∧
    (i.agent = .receive → t.txq = s.txq ∧ t.fresh = s.fresh) ∧
    (t.rxbuf ≠ s.rxbuf ∨ t.wanted ≠ s.wanted → i = .por ∨ ∃ b, i = .rxb b) ∧
    (t.rxstate ≠ s.rxstate ∨ t.cursor ≠ s.cursor → i = .por ∨ i = .reopen ∨ ∃ b, i = .rxb b) ∧
    (t.baseId ≠ s.baseId →
      i = .por ∨ i = .reopen ∨ (∃ f, i = .rxBaseid f ∧ t.baseId = baseVal f) ∨
        ∃ b, i = .rxb b ∧ s.rxstate = .readingChecksum ∧ t.baseId = baseVal (frameOf t.rxbuf)) ∧
    (t.txq ≠ s.txq →
      (i.agent = .command ∧ ∃ new, t.txq = s.txq ++ new) ∨ (i = .drain ∧ ∃ f, s.txq = f :: t.txq) ∨
        (i = .por ∧ t.txq = [])) ∧
    (t.fresh ≠ s.fresh → i = .por) ∧
    t.params = s.params ∧ t.pending = s.pending

/-- R21, R30 to R32: what an operation does and reports depends on P and the block alone (and, for POR, on
the model's own counter of resets), never on an earlier event or on what is still to come; a request is
answered by one result at CMD, a DRAIN by one at TXD, a byte only at EVT, and a reset by nothing. That
TX_EMPTY leaves at TXD is read from R10 and R202 (notes/assumptions/29.md). -/
def Obligations.OperationsSeeOnlyTheBlockAndAnswerAtTheirPorts : Prop :=
  ∀ (i : Instr) (s t : State), exec i s = .next t →
    (∀ (q : List FetchWord) (es : List Event),
      exec i { s with pending := q, events := es } = .next { t with pending := q }) ∧
    (i.port = some .cmd → ∃ e, t.events = [e] ∧ eventPort e = .cmd) ∧
    (i.port = some .txd → ∃ e, t.events = [e] ∧ eventPort e = .txd) ∧
    (i.port = some .rx → portOutput .evt t = t.events) ∧
    (i.port = some .ctl → t.events = []) ∧
    i.port ≠ some .evt

/-- R57, R58: a query of the command agent and a byte of the receive agent may come in either order: the
state after both is the same but for the events of the last one, and each reports the same. -/
def Obligations.QueriesAndBytesCommute : Prop :=
  ∀ (s : State) (b : Byte) (q : Instr), q = .qbase ∨ q = .qver ∨ q = .qreset →
    ∃ t1 t2 u1 u2 : State,
      exec (.rxb b) s = .next t1 ∧ exec q t1 = .next t2 ∧ exec q s = .next u1 ∧ exec (.rxb b) u1 = .next u2 ∧
      { t2 with events := [] } = { u2 with events := [] } ∧ t1.events = u2.events ∧ t2.events = u1.events

/-- R56, R250: with no operation waiting nothing happens, for any number of steps: a stalled frame is not
timed out (notes/assumptions/9.md says how a step without an operation is modelled). -/
def Obligations.NothingHappensWithoutAnOperation : Prop :=
  ∀ (s : State) (n : Nat), paramsOk s.params = true → s.pending = [] → 0 < n →
    (Host.Core.run Sys2Proof.core n s : Host.Outcome State Fault Refusal) = .next { s with events := [] }

/-! ## The codec -/

/-- R110: CHK is the sum of the bytes at offsets 2..12 modulo 256, for any array that has them, and for
RXBUF. -/
def Obligations.ChecksumIsTheSumOfElevenBytes : Prop :=
  (∀ (n : Nat) (a : Vector Byte n) (h : 13 ≤ n),
    (chk a h).toNat = (((a.toList.drop 2).take 11).map BitVec.toNat).sum % 256) ∧
  (∀ x : RxBuf, 13 ≤ x.length → (bufChk x).toNat = (((x.drop 2).take 11).map BitVec.toNat).sum % 256)

/-- R112: BUILD_BASE byte by byte, and it is valid for every telegram type. -/
def Obligations.BuildBaseResult : Prop :=
  ∀ (p : Params) (t : Byte),
    buildBase p t = #v[p.sync1, p.sync2, p.tagTxcmd ||| p.lenFixed, t, 0, 0, 0, 0, 0, 0, 0, 0, 0,
      (p.tagTxcmd ||| p.lenFixed) + t] ∧ valid (buildBase p t) = true

/-- R119: the properties (a) to (g) of the codec. -/
def Obligations.CodecProperties : Prop :=
  (∀ (p : Params) (t : Byte), valid (buildBase p t) = true) ∧
  (∀ t : Frame, valid (sealFrame t) = true) ∧
  (∀ t : Frame, sealFrame (sealFrame t) = sealFrame t) ∧
  (∀ (t : Frame) (k : Nat) (hk : k < 14) (v : Byte), valid t = true → 2 ≤ k → k ≤ 12 → v ≠ t[k] →
    valid (t.set k v hk) = false) ∧
  (∀ (t : Frame) (v : Byte), valid t = true → v ≠ t[13] → valid (t.set 13 v) = false) ∧
  (∀ (t : Frame) (v w : Byte), valid ((t.set 0 v).set 1 w) = valid t) ∧
  (∀ f : Frame, frameOfExt (viewExt f) = f) ∧ (∀ v : ExtView, viewExt (frameOfExt v) = v) ∧
  (∀ f : Frame, frameOfMack (viewMack f) = f) ∧ (∀ v : MackView, viewMack (frameOfMack v) = v)

/-- R75, R76, R77, R52: the assemblies are big-endian, and writing an identifier is the inverse of
reading it. -/
def Obligations.AssembliesAreBigEndian : Prop :=
  (∀ f : Frame, (nodeId f).toNat = f[8].toNat * 2 ^ 24 + f[9].toNat * 2 ^ 16 + f[10].toNat * 2 ^ 8 + f[11].toNat ∧
    (baseVal f).toNat = f[4].toNat * 2 ^ 24 + f[5].toNat * 2 ^ 16 + f[6].toNat * 2 ^ 8 + f[7].toNat ∧
    (cnt24 f).toNat = f[4].toNat * 2 ^ 16 + f[5].toNat * 2 ^ 8 + f[6].toNat) ∧
  (∀ (f : Frame) (id : NodeId), nodeId (writeId f id) = id)

/-- R79: RPS_PACK puts the three fields at 7:6, 5 and 4 and zeros below, and RPS_UNPACK reads the six
fields of any byte back so that they make up the byte. -/
def Obligations.RpsDataByteFields : Prop :=
  (∀ (rid : BitVec 2) (ud pr : BitVec 1), rpsUnpack (rpsPack rid ud pr) = ⟨rid, ud, pr, 0, 0, 0⟩) ∧
  (∀ d : Byte, (rpsUnpack d).rid ++ (rpsUnpack d).ud ++ (rpsUnpack d).pr ++ (rpsUnpack d).srid ++
    (rpsUnpack d).sud ++ (rpsUnpack d).sa = d)

/-- R70, R72, R73, R115 to R118 (a), R61: each view names the fourteen bytes in the order of its table; its
record holds what its fields read; the fields R116 and R117 list are names of one byte; and after a write
through any view every field that aliases it reads the written byte and every other field is as before; a
write of SEQ or LENGTH alone keeps the other. -/
def Obligations.ViewsNameTheSameBytes : Prop :=
  (∀ f : Frame,
    [Field.sync1, .sync2, .hdr, .org, .db3, .db2, .db1, .db0, .id3, .id2, .id1, .id0, .status, .checksum].map
      (readField f) = f.toList ∧
    [Field.sync1, .sync2, .hdr, .org, .xdb5, .xdb4, .xdb3, .xdb2, .xdb1, .xdb0, .xaddr1, .xaddr0, .status,
      .checksum].map (readField f) = f.toList ∧
    [Field.sync1, .sync2, .hdr, .org, .maddr1, .maddr0, .mpad5, .mpad4, .mpad3, .mpad2, .mpad1, .mpad0, .status,
      .checksum].map (readField f) = f.toList) ∧
  (∀ f : Frame, let get := readField f
    viewBase f =
      { sync1 := get .sync1, sync2 := get .sync2, hdr := get .hdr, seq := (get .hdr).extractLsb' 5 3,
        length := (get .hdr).extractLsb' 0 5, org := get .org, db3 := get .db3, db2 := get .db2, db1 := get .db1,
        db0 := get .db0, id3 := get .id3, id2 := get .id2, id1 := get .id1, id0 := get .id0,
        status := get .status, checksum := get .checksum } ∧
    viewExt f =
      { sync1 := get .sync1, sync2 := get .sync2, hdr := get .hdr, org := get .org, xdb5 := get .xdb5,
        xdb4 := get .xdb4, xdb3 := get .xdb3, xdb2 := get .xdb2, xdb1 := get .xdb1, xdb0 := get .xdb0,
        xaddr := get .xaddr1 ++ get .xaddr0, status := get .status, checksum := get .checksum } ∧
    viewMack f =
      { sync1 := get .sync1, sync2 := get .sync2, hdr := get .hdr, org := get .org,
        maddr := get .maddr1 ++ get .maddr0, mpad5 := get .mpad5, mpad4 := get .mpad4, mpad3 := get .mpad3,
        mpad2 := get .mpad2, mpad1 := get .mpad1, mpad0 := get .mpad0, status := get .status,
        checksum := get .checksum }) ∧
  (∀ f : Frame, ∀ pair ∈ ([(.xdb5, .db3), (.xdb4, .db2), (.xdb3, .db1), (.xdb2, .db0), (.xdb1, .id3), (.xdb0, .id2),
      (.xaddr1, .id1), (.xaddr0, .id0), (.maddr1, .db3), (.maddr0, .db2)] : List (Field × Field)),
    readField f pair.1 = readField f pair.2) ∧
  (∀ (f : Frame) (x y : Field) (v : Byte),
    readField (writeField f x v) y = if fieldOffset x = fieldOffset y then v else readField f y) ∧
  (∀ (f : Frame) (v : BitVec 3), (viewBase (writeSeq f v)).seq = v ∧
    (viewBase (writeSeq f v)).length = (viewBase f).length) ∧
  (∀ (f : Frame) (v : BitVec 5), (viewBase (writeLength f v)).length = v ∧
    (viewBase (writeLength f v)).seq = (viewBase f).seq)
end

