-- ==== Sys2Proof/Laws/Codec.lean ====
section
/-! SUPPORT. Small lemmas of the Frame Codec: reading a byte of a frame after each way of writing one,
and what the checksum depends on (40_codec.md R110 to R113). -/

namespace Sys2Proof.Machine

/-- Two frames are equal when their fourteen bytes are. -/
theorem frame_ext {f g : Frame} (h : ∀ i (hi : i < 14), f[i] = g[i]) : f = g :=
  Vector.ext fun i hi => h i hi

/-- SEAL leaves every byte but offset 13 as it was (R113). -/
theorem sealFrame_get (t : Frame) (i : Nat) (hi : i < 14) (h : i ≠ 13) : (sealFrame t)[i] = t[i] := by
  simp only [sealFrame]
  exact Vector.getElem_set_ne (by omega) hi (by omega)

/-- SEAL writes the checksum at offset 13 (R113). -/
@[simp] theorem sealFrame_get_checksum (t : Frame) : (sealFrame t)[13] = chk t := by
  simp [sealFrame]

/-- CHK depends on offsets 2..12 only (R110). -/
theorem chk_congr {f g : Frame} (h : ∀ i (hi : i < 14), 2 ≤ i → i ≤ 12 → f[i] = g[i]) : chk f = chk g := by
  simp only [chk]
  rw [h 2, h 3, h 4, h 5, h 6, h 7, h 8, h 9, h 10, h 11, h 12] <;> omega

/-- Sealing does not change the checksum (R113). -/
@[simp] theorem chk_sealFrame (t : Frame) : chk (sealFrame t) = chk t :=
  chk_congr fun i hi _ _ => sealFrame_get t i hi (by omega)

/-- SEAL is determined by offsets 0..12 (R113). -/
theorem sealFrame_congr {f g : Frame} (h : ∀ i (hi : i < 14), i ≠ 13 → f[i] = g[i]) : sealFrame f = sealFrame g := by
  refine frame_ext fun i hi => ?_
  by_cases h13 : i = 13
  · subst h13
    simpa using chk_congr fun j hj _ _ => h j hj (by omega)
  · rw [sealFrame_get f i hi h13, sealFrame_get g i hi h13, h i hi h13]

/-- The delivered frame reads the buffer at the same index (R138). -/
@[simp] theorem frameOf_get (x : RxBuf) (i : Nat) (hi : i < 14) : (frameOf x)[i] = reg x i := by
  simp [frameOf]

/-- A register of the buffer is its entry (R10). -/
theorem reg_eq (x : RxBuf) (i : Nat) (h : i < x.length) : reg x i = x[i] := by
  simp [reg, h]

/-- Reading a register after a store (R10). -/
theorem reg_set (x : RxBuf) (i j : Nat) (v : Byte) (h : i < x.length) :
    reg (x.set i v) j = if i = j then v else reg x j := by
  simp only [reg, List.getD_eq_getElem?_getD, List.getElem?_set]
  split <;> simp_all

/-- BUILD_BASE byte by byte (R112). -/
theorem buildBase_eq (p : Params) (t : Byte) :
    buildBase p t = sealFrame #v[p.sync1, p.sync2, hdrBuild p, t, 0, 0, 0, 0, 0, 0, 0, 0, 0, 0] := rfl

end Sys2Proof.Machine
end

