-- ==== Sys2Proof/Laws/Decode.lean ====
section
/-! SUPPORT. Small lemmas of the decoder: the fields of an event word, and a frame word against the
frame it stands for (30_encoding.md R91; 00_scope.md R9). -/

namespace Sys2Proof

open Machine

theorem getLsbD_event (op : BitVec 4) (payload : BitVec 64) (i : Nat) :
    (op ++ payload : BitVec 68).getLsbD i = if i < 64 then payload.getLsbD i else op.getLsbD (i - 64) := by
  have := BitVec.getLsbD_append (x := op) (y := payload) (i := i)
  rw [this]

/-- OP = EVW[67:64] (R91). -/
theorem event_op (op : BitVec 4) (payload : BitVec 64) : (op ++ payload : BitVec 68).extractLsb' 64 4 = op := by
  ext i hi
  simp [getLsbD_event, ← BitVec.getLsbD_eq_getElem]
  exact fun _ => hi

/-- A field of an event word below bit 64 is that field of its payload (R91). -/
theorem event_field (op : BitVec 4) (payload : BitVec 64) (a n : Nat) (h : a + n ≤ 64) :
    (op ++ payload : BitVec 68).extractLsb' a n = payload.extractLsb' a n := by
  ext i hi
  have : a + i < 64 := by omega
  simp [getLsbD_event, this]

/-- One byte of the frame a frame word stands for (R9). -/
theorem frameOfWord_get (w : BitVec 112) (i : Nat) (hi : i < 14) :
    (frameOfWord w)[i] = w.extractLsb' (8 * (13 - i)) 8 := by
  simp [frameOfWord]

/-- A frame word made from a frame stands for that frame (R9). -/
theorem frameOfWord_wordOfFrame (f : Frame) : frameOfWord (wordOfFrame f) = f := by
  refine frame_ext fun i hi => ?_
  rw [frameOfWord_get _ i hi]
  apply BitVec.eq_of_getLsbD_eq
  intro j hj
  rw [BitVec.getLsbD_extractLsb']
  simp only [hj, decide_true, Bool.true_and, wordOfFrame]
  rcases i with _ | _ | _ | _ | _ | _ | _ | _ | _ | _ | _ | _ | _ | _ | i <;> first | omega | skip
  all_goals
    simp only [BitVec.getLsbD_append]
    repeat (first | rw [if_neg (by omega)] | rw [if_pos (by omega)])
    congr 1
    omega

end Sys2Proof
end

