-- ==== Sys2Proof/Laws/State.lean ====
section
/-! SUPPORT. One lemma per field per update of the block, of an operation in progress and of State, true by
definition, so that no proof unfolds a record update. -/

namespace Sys2Proof.Machine

/-! ## startOp, finishOp, perform -/

@[simp] theorem startOp_toBlock (b : Block) : (startOp b).toBlock = b := rfl
@[simp] theorem startOp_emitted (b : Block) : (startOp b).emitted = [] := rfl

@[simp] theorem finishOp_toBlock (r : OpState) (s : State) : (finishOp r s).toBlock = r.toBlock := rfl
@[simp] theorem finishOp_events (r : OpState) (s : State) : (finishOp r s).events = r.emitted := rfl
@[simp] theorem finishOp_params (r : OpState) (s : State) : (finishOp r s).params = s.params := rfl
@[simp] theorem finishOp_pending (r : OpState) (s : State) : (finishOp r s).pending = s.pending := rfl
@[simp] theorem finishOp_fresh (r : OpState) (s : State) : (finishOp r s).fresh = s.fresh := rfl

@[simp] theorem perform_toBlock (op : Params → OpState → OpState) (s : State) :
    (perform op s).toBlock = (op s.params (startOp s.toBlock)).toBlock := rfl
@[simp] theorem perform_events (op : Params → OpState → OpState) (s : State) :
    (perform op s).events = (op s.params (startOp s.toBlock)).emitted := rfl
@[simp] theorem perform_params (op : Params → OpState → OpState) (s : State) : (perform op s).params = s.params := rfl
@[simp] theorem perform_pending (op : Params → OpState → OpState) (s : State) :
    (perform op s).pending = s.pending := rfl
@[simp] theorem perform_fresh (op : Params → OpState → OpState) (s : State) : (perform op s).fresh = s.fresh := rfl

/-! ## emit -/

@[simp] theorem emit_toBlock (e : Event) (r : OpState) : (emit e r).toBlock = r.toBlock := rfl
@[simp] theorem emit_emitted (e : Event) (r : OpState) : (emit e r).emitted = r.emitted ++ [e] := rfl

/-! ## setPc -/

@[simp] theorem setPc_rxbuf (st : RxState) (c : BitVec 5) (r : OpState) : (setPc st c r).rxbuf = r.rxbuf := rfl
@[simp] theorem setPc_rxstate (st : RxState) (c : BitVec 5) (r : OpState) : (setPc st c r).rxstate = st := rfl
@[simp] theorem setPc_cursor (st : RxState) (c : BitVec 5) (r : OpState) : (setPc st c r).cursor = c := rfl
@[simp] theorem setPc_wanted (st : RxState) (c : BitVec 5) (r : OpState) : (setPc st c r).wanted = r.wanted := rfl
@[simp] theorem setPc_baseId (st : RxState) (c : BitVec 5) (r : OpState) : (setPc st c r).baseId = r.baseId := rfl
@[simp] theorem setPc_txq (st : RxState) (c : BitVec 5) (r : OpState) : (setPc st c r).txq = r.txq := rfl
@[simp] theorem setPc_emitted (st : RxState) (c : BitVec 5) (r : OpState) : (setPc st c r).emitted = r.emitted := rfl

/-! ## putByte -/

@[simp] theorem putByte_rxbuf (i : Nat) (v : Byte) (r : OpState) : (putByte i v r).rxbuf = r.rxbuf.set i v := rfl
@[simp] theorem putByte_rxstate (i : Nat) (v : Byte) (r : OpState) : (putByte i v r).rxstate = r.rxstate := rfl
@[simp] theorem putByte_cursor (i : Nat) (v : Byte) (r : OpState) : (putByte i v r).cursor = r.cursor := rfl
@[simp] theorem putByte_wanted (i : Nat) (v : Byte) (r : OpState) : (putByte i v r).wanted = r.wanted := rfl
@[simp] theorem putByte_baseId (i : Nat) (v : Byte) (r : OpState) : (putByte i v r).baseId = r.baseId := rfl
@[simp] theorem putByte_txq (i : Nat) (v : Byte) (r : OpState) : (putByte i v r).txq = r.txq := rfl
@[simp] theorem putByte_emitted (i : Nat) (v : Byte) (r : OpState) : (putByte i v r).emitted = r.emitted := rfl

/-! ## bumpCursor -/

@[simp] theorem bumpCursor_rxbuf (r : OpState) : (bumpCursor r).rxbuf = r.rxbuf := rfl
@[simp] theorem bumpCursor_rxstate (r : OpState) : (bumpCursor r).rxstate = r.rxstate := rfl
@[simp] theorem bumpCursor_cursor (r : OpState) : (bumpCursor r).cursor = r.cursor + 1 := rfl
@[simp] theorem bumpCursor_wanted (r : OpState) : (bumpCursor r).wanted = r.wanted := rfl
@[simp] theorem bumpCursor_baseId (r : OpState) : (bumpCursor r).baseId = r.baseId := rfl
@[simp] theorem bumpCursor_txq (r : OpState) : (bumpCursor r).txq = r.txq := rfl
@[simp] theorem bumpCursor_emitted (r : OpState) : (bumpCursor r).emitted = r.emitted := rfl

/-! ## setWanted -/

@[simp] theorem setWanted_rxbuf (v : BitVec 5) (r : OpState) : (setWanted v r).rxbuf = r.rxbuf := rfl
@[simp] theorem setWanted_rxstate (v : BitVec 5) (r : OpState) : (setWanted v r).rxstate = r.rxstate := rfl
@[simp] theorem setWanted_cursor (v : BitVec 5) (r : OpState) : (setWanted v r).cursor = r.cursor := rfl
@[simp] theorem setWanted_wanted (v : BitVec 5) (r : OpState) : (setWanted v r).wanted = v := rfl
@[simp] theorem setWanted_baseId (v : BitVec 5) (r : OpState) : (setWanted v r).baseId = r.baseId := rfl
@[simp] theorem setWanted_txq (v : BitVec 5) (r : OpState) : (setWanted v r).txq = r.txq := rfl
@[simp] theorem setWanted_emitted (v : BitVec 5) (r : OpState) : (setWanted v r).emitted = r.emitted := rfl

/-! ## setBaseId -/

@[simp] theorem setBaseId_rxbuf (v : NodeId) (r : OpState) : (setBaseId v r).rxbuf = r.rxbuf := rfl
@[simp] theorem setBaseId_rxstate (v : NodeId) (r : OpState) : (setBaseId v r).rxstate = r.rxstate := rfl
@[simp] theorem setBaseId_cursor (v : NodeId) (r : OpState) : (setBaseId v r).cursor = r.cursor := rfl
@[simp] theorem setBaseId_wanted (v : NodeId) (r : OpState) : (setBaseId v r).wanted = r.wanted := rfl
@[simp] theorem setBaseId_baseId (v : NodeId) (r : OpState) : (setBaseId v r).baseId = v := rfl
@[simp] theorem setBaseId_txq (v : NodeId) (r : OpState) : (setBaseId v r).txq = r.txq := rfl
@[simp] theorem setBaseId_emitted (v : NodeId) (r : OpState) : (setBaseId v r).emitted = r.emitted := rfl

/-! ## push -/

@[simp] theorem push_rxbuf (f : Frame) (r : OpState) : (push f r).rxbuf = r.rxbuf := rfl
@[simp] theorem push_rxstate (f : Frame) (r : OpState) : (push f r).rxstate = r.rxstate := rfl
@[simp] theorem push_cursor (f : Frame) (r : OpState) : (push f r).cursor = r.cursor := rfl
@[simp] theorem push_wanted (f : Frame) (r : OpState) : (push f r).wanted = r.wanted := rfl
@[simp] theorem push_baseId (f : Frame) (r : OpState) : (push f r).baseId = r.baseId := rfl
@[simp] theorem push_txq (f : Frame) (r : OpState) : (push f r).txq = r.txq ++ [f] := rfl
@[simp] theorem push_emitted (f : Frame) (r : OpState) : (push f r).emitted = r.emitted := rfl

/-! ## enq -/

@[simp] theorem enq_rxbuf (t : Frame) (r : OpState) : (enq t r).rxbuf = r.rxbuf := rfl
@[simp] theorem enq_rxstate (t : Frame) (r : OpState) : (enq t r).rxstate = r.rxstate := rfl
@[simp] theorem enq_cursor (t : Frame) (r : OpState) : (enq t r).cursor = r.cursor := rfl
@[simp] theorem enq_wanted (t : Frame) (r : OpState) : (enq t r).wanted = r.wanted := rfl
@[simp] theorem enq_baseId (t : Frame) (r : OpState) : (enq t r).baseId = r.baseId := rfl
@[simp] theorem enq_txq (t : Frame) (r : OpState) : (enq t r).txq = r.txq ++ [sealFrame t] := rfl
@[simp] theorem enq_emitted (t : Frame) (r : OpState) : (enq t r).emitted = r.emitted := rfl

/-! ## reopenBlock -/

@[simp] theorem reopenBlock_rxbuf (r : OpState) : (reopenBlock r).rxbuf = r.rxbuf := rfl
@[simp] theorem reopenBlock_rxstate (r : OpState) : (reopenBlock r).rxstate = .awaitSync1 := rfl
@[simp] theorem reopenBlock_cursor (r : OpState) : (reopenBlock r).cursor = 0 := rfl
@[simp] theorem reopenBlock_wanted (r : OpState) : (reopenBlock r).wanted = r.wanted := rfl
@[simp] theorem reopenBlock_baseId (r : OpState) : (reopenBlock r).baseId = 0 := rfl
@[simp] theorem reopenBlock_txq (r : OpState) : (reopenBlock r).txq = r.txq := rfl
@[simp] theorem reopenBlock_emitted (r : OpState) : (reopenBlock r).emitted = r.emitted := rfl

/-! ## powerOn -/

@[simp] theorem powerOn_rxbuf (p : Params) (n : Nat) (r : OpState) : (powerOn p n r).rxbuf = Config.porRxbuf n p.rxbufCap := rfl
@[simp] theorem powerOn_rxstate (p : Params) (n : Nat) (r : OpState) : (powerOn p n r).rxstate = .awaitSync1 := rfl
@[simp] theorem powerOn_cursor (p : Params) (n : Nat) (r : OpState) : (powerOn p n r).cursor = 0 := rfl
@[simp] theorem powerOn_wanted (p : Params) (n : Nat) (r : OpState) : (powerOn p n r).wanted = Config.porWanted n := rfl
@[simp] theorem powerOn_baseId (p : Params) (n : Nat) (r : OpState) : (powerOn p n r).baseId = 0 := rfl
@[simp] theorem powerOn_txq (p : Params) (n : Nat) (r : OpState) : (powerOn p n r).txq = [] := rfl
@[simp] theorem powerOn_emitted (p : Params) (n : Nat) (r : OpState) : (powerOn p n r).emitted = r.emitted := rfl

end Sys2Proof.Machine
end

