-- ==== Sys2Proof/Laws/Ops.lean ====
section
/-! SUPPORT. One lemma per shared operation that says once everything it can do; the proofs cite these
instead of unfolding the operations. -/

namespace Sys2Proof.Machine

open Sys2Proof.Safety

/-! ## An operation as a whole -/

/-- What an operation performed by the machine leaves: the block and the events it gives for P and the block,
and the model's own fields as they were (10_state.md R21). -/
theorem perform_eq (op : Params → OpState → OpState) (s : State) :
    perform op s =
      { s with
        toBlock := (op s.params (startOp s.toBlock)).toBlock
        events := (op s.params (startOp s.toBlock)).emitted } := rfl

/-! ## Conditions -/

@[simp] theorem raiseCond_framing (r : OpState) :
    raiseCond .framing r = { r with rxstate := .awaitSync1, cursor := 0 } := rfl

@[simp] theorem raiseCond_checksumError (r : OpState) :
    raiseCond .checksumError r = { r with rxstate := .awaitSync1, cursor := 0, emitted := r.emitted ++ [.chkErr] } := rfl

@[simp] theorem raiseCond_unknownType (f : Frame) (r : OpState) :
    raiseCond (.unknownType f) r = { r with emitted := r.emitted ++ [.diag f] } := rfl

@[simp] theorem raiseCond_cmdError (c : ErrCode) (r : OpState) :
    raiseCond (.cmdError c) r = { r with emitted := r.emitted ++ [.cmdErr c] } := rfl

/-! ## Delivery -/

/-- All a delivery does: FRAME_OK and one follow-up event; BASE_ID for a base-ID info frame. -/
theorem deliverAs_eq (cls : FrameClass) (f : Frame) (r : OpState) :
    deliverAs cls f r =
      { r with
        baseId := capturedBase cls f r.baseId
        emitted := r.emitted ++ [.frameOk f cls, followUp cls f] } := by
  cases cls <;> simp [deliverAs, dispatchAs, emit, setBaseId, capturedBase, followUp]

/-! ## The receive state machine -/

theorem rxByte_awaitSync1 {r : OpState} (p : Params) (b : Byte) (h : r.rxstate = .awaitSync1) :
    rxByte p b r = { r with rxstate := if b = p.sync1 then .awaitSync2 else .awaitSync1, cursor := 0 } := by
  simp only [rxByte, h, rxAwaitSync1]
  split <;> rfl

theorem rxByte_awaitSync2 {r : OpState} (p : Params) (b : Byte) (h : r.rxstate = .awaitSync2) :
    rxByte p b r = { r with rxstate := if b = p.sync2 then .readingHeader else .awaitSync1, cursor := 0 } := by
  simp only [rxByte, h, rxAwaitSync2]
  split <;> rfl

theorem rxByte_readingHeader {r : OpState} (p : Params) (b : Byte) (h : r.rxstate = .readingHeader) :
    rxByte p b r =
      { r with
        rxbuf := ((r.rxbuf.set 0 p.sync1).set 1 p.sync2).set 2 b
        wanted := wantedLen p b
        rxstate := .readingBody
        cursor := 3 } := by
  simp only [rxByte, h]
  rfl

theorem endBody_done {r : OpState} (h : r.wanted.toNat ≤ r.cursor.toNat + 1) :
    endBody r = { r with rxstate := .readingChecksum } := by
  simp [endBody, h, setPc]

theorem endBody_more {r : OpState} (h : ¬ r.wanted.toNat ≤ r.cursor.toNat + 1) : endBody r = r := by
  simp [endBody, h]

/-- RXB in ReadingBody (R135). -/
theorem rxByte_readingBody {r : OpState} (p : Params) (b : Byte) (h : r.rxstate = .readingBody) :
    rxByte p b r = endBody { r with rxbuf := r.rxbuf.set r.cursor.toNat b, cursor := r.cursor + 1 } := by
  have : rxByte p b r = rxReadingBody b r := by simp only [rxByte, h]
  rw [this]
  rfl

theorem endFrame_ok {p : Params} {b : Byte} (r : OpState) (h : bufChk r.rxbuf = b) :
    endFrame p b r =
      { r with
        rxstate := .awaitSync1
        cursor := 0
        baseId := capturedBase (classify p (frameOf r.rxbuf)) (frameOf r.rxbuf) r.baseId
        emitted := r.emitted ++ [.frameOk (frameOf r.rxbuf) (classify p (frameOf r.rxbuf)),
          followUp (classify p (frameOf r.rxbuf)) (frameOf r.rxbuf)] } := by
  simp [endFrame, h, setPc, deliver, deliverAs_eq]

theorem endFrame_bad {p : Params} {b : Byte} (r : OpState) (h : bufChk r.rxbuf ≠ b) :
    endFrame p b r = { r with rxstate := .awaitSync1, cursor := 0, emitted := r.emitted ++ [.chkErr] } := by
  simp [endFrame, h, setPc]

/-- RXB in ReadingChecksum (R136). -/
theorem rxByte_readingChecksum {r : OpState} (p : Params) (b : Byte) (h : r.rxstate = .readingChecksum) :
    rxByte p b r = endFrame p b { r with rxbuf := r.rxbuf.set r.cursor.toNat b, cursor := r.cursor + 1 } := by
  have : rxByte p b r = rxReadingChecksum p b r := by simp only [rxByte, h]
  rw [this]
  rfl

/-! ## The queue and the build operations -/

theorem room_iff (p : Params) (n : Nat) (r : OpState) :
    room p n r = true ↔ ∀ d, p.txqDepth = some d → r.txq.length + n ≤ d := by
  cases h : p.txqDepth <;> simp [room, h]

theorem buildOne_ok {p : Params} {t : Frame} {r : OpState} (h : room p 1 r = true) :
    buildOne p t r = { r with txq := r.txq ++ [sealFrame t], emitted := r.emitted ++ [.cmdOk 1] } := by
  simp [buildOne, h, emit, enq, push]

theorem buildOne_full {p : Params} {t : Frame} {r : OpState} (h : room p 1 r = false) :
    buildOne p t r = { r with emitted := r.emitted ++ [.cmdErr .qFull] } := by
  simp [buildOne, h]

/-- All a one-frame build operation can do (R170, R182). -/
theorem buildOne_cases (p : Params) (t : Frame) (r : OpState) :
    (room p 1 r = true ∧
        buildOne p t r = { r with txq := r.txq ++ [sealFrame t], emitted := r.emitted ++ [.cmdOk 1] }) ∨
      (room p 1 r = false ∧ buildOne p t r = { r with emitted := r.emitted ++ [.cmdErr .qFull] }) := by
  cases h : room p 1 r
  · exact .inr ⟨rfl, buildOne_full h⟩
  · exact .inl ⟨rfl, buildOne_ok h⟩

/-- All a build operation that names a node can do (R170, R173, R182). -/
theorem buildForNode_cases (p : Params) (id : NodeId) (t : Frame) (r : OpState) :
    (inRange p id r.baseId = true ∧ buildForNode p id t r = buildOne p t r) ∨
      (inRange p id r.baseId = false ∧
        buildForNode p id t r = { r with emitted := r.emitted ++ [.cmdErr .idRange] }) := by
  cases h : inRange p id r.baseId <;> simp [buildForNode, h]

theorem popHead_nil {r : OpState} (h : r.txq = []) :
    popHead r = { r with emitted := r.emitted ++ [.txEmpty] } := by
  simp [popHead, h, emit]

theorem popHead_cons {r : OpState} {f : Frame} {rest : List Frame} (h : r.txq = f :: rest) :
    popHead r = { r with txq := rest, emitted := r.emitted ++ [.tx f] } := by
  simp [popHead, h, emit]

/-- All the rocker path can do (R178): two frames, or E_QFULL. -/
theorem rockerPath_cases (p : Params) (id : NodeId) (unit : Byte) (cmd : Cmd) (r : OpState) :
    (room p 2 r = true ∧ rockerPath p id unit cmd r =
        { r with
          txq := r.txq ++ [sealFrame (sealFrame (pressT p (rockerIndex unit) (upDown cmd) id)),
            sealFrame (writeRelease p (rockerIndex unit)
              (sealFrame (pressT p (rockerIndex unit) (upDown cmd) id)))]
          emitted := r.emitted ++ [.cmdOk 2] }) ∨
      (room p 2 r = false ∧ rockerPath p id unit cmd r = { r with emitted := r.emitted ++ [.cmdErr .qFull] }) := by
  cases h : room p 2 r <;> simp [rockerPath, h, emit, enq, push]

/-- All SWITCH can do (R177). -/
theorem switchCommand_cases (p : Params) (id : NodeId) (unit : Byte) (cmd : Cmd) (level : Byte) (isDimmer : Bool)
    (lastLevel : Byte) (r : OpState) :
    (p.unitLimit ≤ unit.toNat ∧ switchCommand p id unit cmd level isDimmer lastLevel r =
        { r with emitted := r.emitted ++ [.cmdErr .unit] }) ∨
      (unit.toNat < p.unitLimit ∧ inRange p id r.baseId = false ∧
        switchCommand p id unit cmd level isDimmer lastLevel r = { r with emitted := r.emitted ++ [.cmdErr .idRange] }) ∨
      (unit.toNat < p.unitLimit ∧ inRange p id r.baseId = true ∧
        (∃ pct, scale p cmd level lastLevel isDimmer = some pct ∧
          switchCommand p id unit cmd level isDimmer lastLevel r = buildOne p (dimT p pct id) r)) ∨
      (unit.toNat < p.unitLimit ∧ inRange p id r.baseId = true ∧
        scale p cmd level lastLevel isDimmer = none ∧
        switchCommand p id unit cmd level isDimmer lastLevel r = rockerPath p id unit cmd r) := by
  by_cases hu : p.unitLimit ≤ unit.toNat
  · exact .inl ⟨hu, by simp [switchCommand, hu]⟩
  · have hu' : unit.toNat < p.unitLimit := by omega
    cases hr : inRange p id r.baseId
    · exact .inr (.inl ⟨hu', rfl, by simp [switchCommand, hu, hr]⟩)
    · cases hs : scale p cmd level lastLevel isDimmer with
      | none => exact .inr (.inr (.inr ⟨hu', rfl, rfl, by simp [switchCommand, hu, hr, hs]⟩))
      | some pct => exact .inr (.inr (.inl ⟨hu', rfl, pct, rfl, by simp [switchCommand, hu, hr, hs, dimPath]⟩))

/-! ## The step -/

/-- All a step that answers a next state can have done. -/
theorem step_next_cases {s t : State} (h : step s = .next t) :
    paramsOk s.params = true ∧
      ((s.pending = [] ∧ t = { s with events := [] }) ∨
        (∃ w rest i, s.pending = w :: rest ∧ decode s.params w = .ok i ∧ exec i { s with pending := rest } = .next t) ∨
        (∃ w rest, s.pending = w :: rest ∧ decode s.params w = .error .reservedEvent ∧
          t = { s with pending := rest, events := [.cmdErr .badReq] })) := by
  simp only [step, fetch] at h
  by_cases hp : paramsOk s.params = true
  · refine ⟨hp, ?_⟩
    simp only [hp, if_true] at h
    cases hq : s.pending with
    | nil =>
      simp only [hq] at h
      exact .inl ⟨rfl, by cases h; simp [idleStep, hq]⟩
    | cons w rest =>
      simp only [hq] at h
      cases hd : decode s.params w with
      | ok i =>
        simp only [hd] at h
        exact .inr (.inl ⟨w, rest, i, rfl, hd, h⟩)
      | error e =>
        cases e with
        | reservedEvent =>
          simp only [hd] at h
          exact .inr (.inr ⟨w, rest, rfl, hd, by cases h; rfl⟩)
        | noBuiltKind => simp [hd] at h
  · simp [hp] at h

end Sys2Proof.Machine
end

