-- ==== Sys2Proof/Laws/Exec.lean ====
section
/-! SUPPORT. What exec answers for each constructor, in terms of the shared operations: every operation
answers a next state (60_exceptions.md R210). -/

namespace Sys2Proof.Machine

theorem exec_fRdIdbase (s : State) :
    exec .fRdIdbase s = .next (perform (fun p => buildOne p (buildBase p p.orgRdIdbase)) s) := rfl

theorem exec_fRdSwVer (s : State) :
    exec .fRdSwVer s = .next (perform (fun p => buildOne p (buildBase p p.orgRdSwVer)) s) := rfl

theorem exec_fReset (s : State) :
    exec .fReset s = .next (perform (fun p => buildOne p (buildBase p p.orgReset)) s) := rfl

theorem exec_fRpsPress (rid : BitVec 2) (ud : BitVec 1) (id : NodeId) (s : State) :
    exec (.fRpsPress rid ud id) s = .next (perform (fun p => buildForNode p id (pressT p rid ud id)) s) := rfl

theorem exec_fRpsRelease (rid : BitVec 2) (id : NodeId) (s : State) :
    exec (.fRpsRelease rid id) s = .next (perform (fun p => buildForNode p id (releaseT p rid id)) s) := rfl

theorem exec_f4bsDim (pct : Byte) (id : NodeId) (s : State) :
    exec (.f4bsDim pct id) s = .next (perform (fun p => buildForNode p id (dimT p (clampLevel p pct) id)) s) := rfl

theorem exec_f4bsTeach (id : NodeId) (s : State) :
    exec (.f4bsTeach id) s = .next (perform (fun p => buildForNode p id (teachT p id)) s) := rfl

theorem exec_rxAckIdBaseOk (f : Frame) (s : State) :
    exec (.rxAckIdBaseOk f) s = .next (perform (fun _ => deliverAs (.ack (.known .idBaseOk)) f) s) := rfl

theorem exec_rxAckNotWantedAck (f : Frame) (s : State) :
    exec (.rxAckNotWantedAck f) s = .next (perform (fun _ => deliverAs (.ack (.known .notWantedAck)) f) s) := rfl

theorem exec_rxAckNotAck (f : Frame) (s : State) :
    exec (.rxAckNotAck f) s = .next (perform (fun _ => deliverAs (.ack (.known .notAck)) f) s) := rfl

theorem exec_rxAckDuplicateId (f : Frame) (s : State) :
    exec (.rxAckDuplicateId f) s = .next (perform (fun _ => deliverAs (.ack (.known .duplicateId)) f) s) := rfl

theorem exec_rxAckErrHeaderSeq (f : Frame) (s : State) :
    exec (.rxAckErrHeaderSeq f) s = .next (perform (fun _ => deliverAs (.ack (.known .errHeaderSeq)) f) s) := rfl

theorem exec_rxAckErrLength (f : Frame) (s : State) :
    exec (.rxAckErrLength f) s = .next (perform (fun _ => deliverAs (.ack (.known .errLength)) f) s) := rfl

theorem exec_rxAckErrChecksum (f : Frame) (s : State) :
    exec (.rxAckErrChecksum f) s = .next (perform (fun _ => deliverAs (.ack (.known .errChecksum)) f) s) := rfl

theorem exec_rxAckErrType (f : Frame) (s : State) :
    exec (.rxAckErrType f) s = .next (perform (fun _ => deliverAs (.ack (.known .errType)) f) s) := rfl

theorem exec_rxAckErrTxIdrange (f : Frame) (s : State) :
    exec (.rxAckErrTxIdrange f) s = .next (perform (fun _ => deliverAs (.ack (.known .errTxIdrange)) f) s) := rfl

theorem exec_rxAckErrIdrange (f : Frame) (s : State) :
    exec (.rxAckErrIdrange f) s = .next (perform (fun _ => deliverAs (.ack (.known .errIdrange)) f) s) := rfl

theorem exec_rxAckUnknown (f : Frame) (s : State) :
    exec (.rxAckUnknown f) s = .next (perform (fun _ => deliverAs (.ack .unknownCode) f) s) := rfl

theorem exec_rxBaseid (f : Frame) (s : State) :
    exec (.rxBaseid f) s = .next (perform (fun _ => deliverAs .baseId f) s) := rfl

theorem exec_rxRps (f : Frame) (s : State) :
    exec (.rxRps f) s = .next (perform (fun _ => deliverAs .rps f) s) := rfl

theorem exec_rx4bs (f : Frame) (s : State) :
    exec (.rx4bs f) s = .next (perform (fun _ => deliverAs .fourBs f) s) := rfl

theorem exec_rxOther (f : Frame) (s : State) :
    exec (.rxOther f) s = .next (perform (fun _ => deliverAs .other f) s) := rfl

theorem exec_por (s : State) :
    exec .por s = .next (perform (fun p => powerOn p s.fresh) { s with fresh := s.fresh + 1 }) := rfl

theorem exec_reopen (s : State) :
    exec .reopen s = .next (perform (fun _ => reopenBlock) s) := rfl

theorem exec_rxb (b : Byte) (s : State) :
    exec (.rxb b) s = .next (perform (fun p => rxByte p b) s) := rfl

theorem exec_drain (s : State) :
    exec .drain s = .next (perform (fun _ => popHead) s) := rfl

theorem exec_qbase (s : State) :
    exec .qbase s = .next (perform (fun p => buildOne p (buildBase p p.orgRdIdbase)) s) := rfl

theorem exec_qver (s : State) :
    exec .qver s = .next (perform (fun p => buildOne p (buildBase p p.orgRdSwVer)) s) := rfl

theorem exec_qreset (s : State) :
    exec .qreset s = .next (perform (fun p => buildOne p (buildBase p p.orgReset)) s) := rfl

theorem exec_switch (id : NodeId) (unit : Byte) (cmd : Cmd) (level : Byte) (isDimmer : Bool) (lastLevel : Byte) (s : State) :
    exec (.switch id unit cmd level isDimmer lastLevel) s = .next (perform (fun p => switchCommand p id unit cmd level isDimmer lastLevel) s) := rfl

theorem exec_teach (id : NodeId) (s : State) :
    exec (.teach id) s = .next (perform (fun p => buildForNode p id (teachT p id)) s) := rfl

/-- Every operation completes: no operation faults and none is refused (R130, R210). -/
theorem exec_next (i : Instr) (s : State) : ∃ t, exec i s = .next t := by
  cases i <;> exact ⟨_, rfl⟩

end Sys2Proof.Machine
end

