-- ==== Sys2Proof/Laws/Frames.lean ====
section
/-! SUPPORT. The seven frame kinds byte by byte (30_encoding.md R85), and the tests of the build
operations in the terms of Safety (43_command_builder.md R173, R182). -/

namespace Sys2Proof.Machine

open Sys2Proof.Safety

/-- Two working frames that agree before the checksum byte seal to the same frame (R113). -/
theorem sealFrame_eq_of_bytes {f g : Frame}
    (h : f[0] = g[0] ∧ f[1] = g[1] ∧ f[2] = g[2] ∧ f[3] = g[3] ∧ f[4] = g[4] ∧ f[5] = g[5] ∧ f[6] = g[6] ∧
      f[7] = g[7] ∧ f[8] = g[8] ∧ f[9] = g[9] ∧ f[10] = g[10] ∧ f[11] = g[11] ∧ f[12] = g[12]) :
    sealFrame f = sealFrame g := by
  obtain ⟨_, _, _, _, _, _, _, _, _, _, _, _, _⟩ := h
  refine sealFrame_congr fun i hi h13 => ?_
  rcases i with _ | _ | _ | _ | _ | _ | _ | _ | _ | _ | _ | _ | _ | i <;> first | assumption | omega

theorem buildBase_zeroPayload (p : Params) (t : Byte) : buildBase p t = zeroPayloadFrame p t := by
  simp [buildBase, zeroPayloadFrame, sealFrame, chk, Vector.replicate_succ, frameLen]

theorem queryFrame_zeroPayload (p : Params) (t : Byte) : queryFrame p t = zeroPayloadFrame p t := by
  rw [← buildBase_zeroPayload, queryFrame, buildBase]
  exact sealFrame_congr fun i hi h => sealFrame_get _ i hi h

theorem rpsPressFrame_sealed (p : Params) (rid : BitVec 2) (ud : BitVec 1) (id : NodeId) :
    rpsPressFrame p rid ud id = sealedRadioFrame p p.orgRps (rpsPack rid ud 1) 0 0 0 id p.statusPress := by
  apply sealFrame_eq_of_bytes
  simp [pressT, writePress, radioBase, writeId, buildBase, sealFrame]

theorem rpsReleaseFrame_sealed (p : Params) (rid : BitVec 2) (id : NodeId) :
    rpsReleaseFrame p rid id = sealedRadioFrame p p.orgRps (rpsPack rid 0 0) 0 0 0 id p.statusRelease := by
  apply sealFrame_eq_of_bytes
  simp [releaseT, writeRelease, radioBase, writeId, buildBase, sealFrame]

/-- Making the sealed press frame the release frame gives the release frame built on its own (R178). -/
theorem writeRelease_of_press (p : Params) (rid : BitVec 2) (ud : BitVec 1) (id : NodeId) :
    sealFrame (writeRelease p rid (sealFrame (pressT p rid ud id))) = rpsReleaseFrame p rid id := by
  apply sealFrame_eq_of_bytes
  simp [releaseT, pressT, writePress, writeRelease, radioBase, writeId, buildBase, sealFrame]

theorem dimFrame_sealed (p : Params) (pct : Byte) (id : NodeId) :
    dimFrame p pct id =
      sealedRadioFrame p p.org4bs p.dimMarker pct p.dimRamp (dimFlag p pct) id p.status4bs := by
  apply sealFrame_eq_of_bytes
  simp [dimT, radioBase, writeId, buildBase, sealFrame]

theorem teachFrame_sealed (p : Params) (id : NodeId) :
    teachFrame p id = sealedRadioFrame p p.org4bs p.dimMarker 0 0 0 id p.status4bs := by
  apply sealFrame_eq_of_bytes
  simp [teachT, radioBase, writeId, buildBase, sealFrame]

/-- The bytes of a frame SWITCH or TEACH builds, but its identifier and checksum bytes. -/
theorem sealedRadioFrame_bytes (p : Params) (org a b c d : Byte) (id : NodeId) (st : Byte) :
    let f := sealedRadioFrame p org a b c d id st
    f[0] = p.sync1 ∧ f[1] = p.sync2 ∧ f[2] = p.hdrRadioTx ∧ f[3] = org ∧ f[4] = a ∧ f[5] = b ∧ f[6] = c ∧
      f[7] = d ∧ f[12] = st := by
  simp [sealedRadioFrame, sealFrame]

theorem room_hasRoom (n : Nat) (s : State) : room s.params n (startOp s.toBlock) = true ↔ hasRoom n s :=
  room_iff s.params n (startOp s.toBlock)

theorem room_eq_false (n : Nat) (s : State) : room s.params n (startOp s.toBlock) = false ↔ ¬ hasRoom n s := by
  rw [← room_hasRoom]
  cases room s.params n (startOp s.toBlock) <;> simp

theorem inRange_idInWindow (s : State) (id : NodeId) : inRange s.params id s.baseId = true ↔ idInWindow s id := by
  simp [inRange, idInWindow]

end Sys2Proof.Machine
end

