-- ==== Sys2Proof/Laws/PerInstr.lean ====
section
/-! SUPPORT. A family of statements about every instruction, one lemma per constructor: the format its
encoding is of (30_encoding.md R9, R91, R96). -/

namespace Sys2Proof.Laws

/-- The word of an instruction is a 68-bit event word exactly when a port carries the instruction in
(10_state.md R32), and a 112-bit frame word otherwise. -/
def EncodedFormat.Statement (i : Instr) : Prop :=
  match encode Machine.defaultParams i with
  | .event _ => i.port.isSome = true
  | .built _ => i.port = none ∧ i.agent = .command
  | .received _ => i.port = none ∧ i.agent = .receive

theorem EncodedFormat.fRdIdbase : EncodedFormat.Statement .fRdIdbase := ⟨rfl, rfl⟩
theorem EncodedFormat.fRdSwVer : EncodedFormat.Statement .fRdSwVer := ⟨rfl, rfl⟩
theorem EncodedFormat.fReset : EncodedFormat.Statement .fReset := ⟨rfl, rfl⟩
theorem EncodedFormat.fRpsPress (rid : BitVec 2) (ud : BitVec 1) (id : NodeId) : EncodedFormat.Statement (.fRpsPress rid ud id) := ⟨rfl, rfl⟩
theorem EncodedFormat.fRpsRelease (rid : BitVec 2) (id : NodeId) : EncodedFormat.Statement (.fRpsRelease rid id) := ⟨rfl, rfl⟩
theorem EncodedFormat.f4bsDim (pct : Byte) (id : NodeId) : EncodedFormat.Statement (.f4bsDim pct id) := ⟨rfl, rfl⟩
theorem EncodedFormat.f4bsTeach (id : NodeId) : EncodedFormat.Statement (.f4bsTeach id) := ⟨rfl, rfl⟩
theorem EncodedFormat.rxAckIdBaseOk (f : Frame) : EncodedFormat.Statement (.rxAckIdBaseOk f) := ⟨rfl, rfl⟩
theorem EncodedFormat.rxAckNotWantedAck (f : Frame) : EncodedFormat.Statement (.rxAckNotWantedAck f) := ⟨rfl, rfl⟩
theorem EncodedFormat.rxAckNotAck (f : Frame) : EncodedFormat.Statement (.rxAckNotAck f) := ⟨rfl, rfl⟩
theorem EncodedFormat.rxAckDuplicateId (f : Frame) : EncodedFormat.Statement (.rxAckDuplicateId f) := ⟨rfl, rfl⟩
theorem EncodedFormat.rxAckErrHeaderSeq (f : Frame) : EncodedFormat.Statement (.rxAckErrHeaderSeq f) := ⟨rfl, rfl⟩
theorem EncodedFormat.rxAckErrLength (f : Frame) : EncodedFormat.Statement (.rxAckErrLength f) := ⟨rfl, rfl⟩
theorem EncodedFormat.rxAckErrChecksum (f : Frame) : EncodedFormat.Statement (.rxAckErrChecksum f) := ⟨rfl, rfl⟩
theorem EncodedFormat.rxAckErrType (f : Frame) : EncodedFormat.Statement (.rxAckErrType f) := ⟨rfl, rfl⟩
theorem EncodedFormat.rxAckErrTxIdrange (f : Frame) : EncodedFormat.Statement (.rxAckErrTxIdrange f) := ⟨rfl, rfl⟩
theorem EncodedFormat.rxAckErrIdrange (f : Frame) : EncodedFormat.Statement (.rxAckErrIdrange f) := ⟨rfl, rfl⟩
theorem EncodedFormat.rxAckUnknown (f : Frame) : EncodedFormat.Statement (.rxAckUnknown f) := ⟨rfl, rfl⟩
theorem EncodedFormat.rxBaseid (f : Frame) : EncodedFormat.Statement (.rxBaseid f) := ⟨rfl, rfl⟩
theorem EncodedFormat.rxRps (f : Frame) : EncodedFormat.Statement (.rxRps f) := ⟨rfl, rfl⟩
theorem EncodedFormat.rx4bs (f : Frame) : EncodedFormat.Statement (.rx4bs f) := ⟨rfl, rfl⟩
theorem EncodedFormat.rxOther (f : Frame) : EncodedFormat.Statement (.rxOther f) := ⟨rfl, rfl⟩
theorem EncodedFormat.por : EncodedFormat.Statement .por := rfl
theorem EncodedFormat.reopen : EncodedFormat.Statement .reopen := rfl
theorem EncodedFormat.rxb (b : Byte) : EncodedFormat.Statement (.rxb b) := rfl
theorem EncodedFormat.drain : EncodedFormat.Statement .drain := rfl
theorem EncodedFormat.qbase : EncodedFormat.Statement .qbase := rfl
theorem EncodedFormat.qver : EncodedFormat.Statement .qver := rfl
theorem EncodedFormat.qreset : EncodedFormat.Statement .qreset := rfl
theorem EncodedFormat.switch (id : NodeId) (unit : Byte) (cmd : Cmd) (level : Byte) (isDimmer : Bool) (lastLevel : Byte) : EncodedFormat.Statement (.switch id unit cmd level isDimmer lastLevel) := rfl
theorem EncodedFormat.teach (id : NodeId) : EncodedFormat.Statement (.teach id) := rfl

end Sys2Proof.Laws
end

