-- ==== Sys2Proof/Laws/Trace.lean ====
section
/-! SUPPORT. Running a trace: one operation at a time, and one trace after another (30_encoding.md R94). -/

namespace Sys2Proof.Machine

theorem traceRun_cons {i : Instr} {rest : List Instr} {s t u : State} {es : List Event}
    (h : exec i s = .next t) (h2 : traceRun rest t = .next (u, es)) :
    traceRun (i :: rest) s = .next (u, t.events ++ es) := by
  simp [traceRun, h, h2]

theorem traceRun_append {a b : List Instr} {s t u : State} {es es2 : List Event}
    (h : traceRun a s = .next (t, es)) (h2 : traceRun b t = .next (u, es2)) :
    traceRun (a ++ b) s = .next (u, es ++ es2) := by
  induction a generalizing s es with
  | nil =>
    simp [traceRun] at h
    obtain ⟨rfl, rfl⟩ := h
    simpa using h2
  | cons i a ih =>
    simp only [traceRun, List.cons_append] at h ⊢
    cases he : exec i s with
    | next s1 =>
      simp only [he] at h ⊢
      cases hq : traceRun a s1 with
      | next r =>
        obtain ⟨r1, r2⟩ := r
        simp only [hq] at h
        injection h with h
        injection h with h3 h4
        subst h3 h4
        rw [ih hq]
        simp
      | fault r => simp [hq] at h
      | refused r => simp [hq] at h
    | fault r => simp [he] at h
    | refused r => simp [he] at h

end Sys2Proof.Machine
end

