-- ==== Sys2Proof/Tests/Slice0.lean ====
section
/-! SUPPORT. Tests. Expected results are those of 95_test_vectors.md (the row is named in each comment) or
are written out from the rule named; the last part shows, for each obligation with hypotheses, a state and
operands that meet them all. -/

namespace Sys2Proof.Tests

open Sys2Proof.Machine Sys2Proof.Safety

/-! ## Helpers -/

/-- A state with a zero buffer, BASE_ID = 0x0000FF00 and an empty queue (95_test_vectors.md, section 2.4). -/
def start : State :=
  { rxbuf := List.replicate 18 0, rxstate := .awaitSync1, cursor := 0, wanted := 0, baseId := 0x0000FF00, txq := [],
    params := defaultParams, pending := [], events := [], fresh := 0 }

/-- The receiver after the header byte 8B: (ReadingBody, 3), WANTED = 14 (X8). -/
def inBody : State :=
  { start with
    rxbuf := ((start.rxbuf.set 0 0xA5).set 1 0x5A).set 2 0x8B, rxstate := .readingBody, cursor := 3, wanted := 14 }

/-- The receiver before the checksum byte of the frame of V1 (X14). -/
def beforeChecksum : State :=
  { inBody with rxbuf := inBody.rxbuf.set 3 0x58, rxstate := .readingChecksum, cursor := 13 }

/-- The start state with a queue that admits n frames. -/
def withDepth (n : Nat) : State := { start with params := { defaultParams with txqDepth := some n } }

/-- What a test looks at in the state an operation leaves. -/
def look {α : Type} (get : State → α) : Host.Outcome State Fault Refusal → Option α
  | .next s => some (get s)
  | .fault _ => none
  | .refused _ => none

/-- The queue and the reported events after an operation. -/
def queueAndEvents (s : State) : List Frame × List Event := (s.txq, s.events)

/-- (RXSTATE, CURSOR) after an operation. -/
def pcOf (s : State) : RxState × BitVec 5 := (s.rxstate, s.cursor)

/-! ## The codec -/

/-- T2: eleven bytes FF. -/
theorem test_chk_all_ff : chk (Vector.replicate 14 0xFF : Frame) = 0xF5 := by decide

/-- T4: offsets 0 and 1 are not summed. -/
theorem test_chk_skips_sync : chk (#v[0, 0, 0x8B, 0x58, 0, 0, 0, 0, 0, 0, 0, 0, 0, 0x77] : Frame) = 0xE3 := by decide

/-- T10, T11: BUILD_BASE at the type bytes that wrap. -/
theorem test_buildBase_wraps :
    (buildBase defaultParams 0x75)[13] = 0x00 ∧ (buildBase defaultParams 0xFF)[13] = 0x8A := by decide

/-- T12: SEAL of a dim frame. -/
theorem test_seal : sealFrame #v[0xA5, 0x5A, 0x8B, 0x07, 0x02, 0x64, 0x01, 0x09, 0, 0, 0xFF, 0x01, 0, 0] =
    #v[0xA5, 0x5A, 0x8B, 0x07, 0x02, 0x64, 0x01, 0x09, 0, 0, 0xFF, 0x01, 0, 0x02] := by decide

/-- T14, T15: VALID sees the checksum byte and not the synchronisation bytes. -/
theorem test_valid : valid #v[0xA5, 0x5A, 0x8B, 0x58, 0, 0, 0, 0, 0, 0, 0, 0, 0, 0xE2] = false ∧
    valid #v[0x11, 0x22, 0x8B, 0x58, 0, 0, 0, 0, 0, 0, 0, 0, 0, 0xE3] = true := by decide

/-- T17: NODE_ID and its text, upper case. -/
theorem test_nodeText : nodeId #v[0, 0, 0, 0, 0, 0, 0, 0, 0xAB, 0xCD, 0xEF, 0x09, 0, 0] = 0xABCDEF09 ∧
    hexDigits 0xABCDEF09 = ['A', 'B', 'C', 'D', 'E', 'F', '0', '9'] := by decide

/-- T20: CNT24 of 00 01 00 is 256, whatever DB0 is. -/
theorem test_cnt24 : cnt24 #v[0, 0, 0, 0, 0x00, 0x01, 0x00, 0x08, 0, 0, 0, 0, 0, 0] = 256 := by decide

/-- R10, R52: MemRead from offset 8 is the node identifier. -/
theorem test_memRead :
    memRead [0, 0, 0, 0, 0, 0, 0, 0, 0xAB, 0xCD, 0xEF, 0x09, 0, 0] 8 4 = 0xABCDEF09 := by decide

/-- T22, T23: the wanted length. -/
theorem test_wantedLen : [0x8B, 0x0B, 0x6B, 0x9B, 0xAB, 0x80, 0x0F, 0x03, 0xFF].map (wantedLen defaultParams) =
    [14, 14, 14, 14, 14, 3, 18, 6, 18] := by decide

/-- T24: RPS_PACK. -/
theorem test_rpsPack : rpsPack 0 1 1 = 0x30 ∧ rpsPack 0 0 1 = 0x10 ∧ rpsPack 1 1 1 = 0x70 ∧ rpsPack 3 0 1 = 0xD0 ∧
    rpsPack 3 0 0 = 0xC0 := by decide

/-- T26: RPS_UNPACK of 1101 0111. -/
theorem test_rpsUnpack : rpsUnpack 0xD7 = ⟨3, 0, 1, 1, 1, 1⟩ := by decide

/-- R81: the teach-in fields of DB3 DB2 DB1 DB0 = 48 0F FF 00, split by hand as PROFILE 12 (010010),
SUBTYPE 01 (00 00001), MANUF 7FF, LRN 0. -/
theorem test_teachUnpack : teachUnpack #v[0, 0, 0, 0, 0x48, 0x0F, 0xFF, 0x00, 0, 0, 0, 0, 0, 0] =
    ⟨0x12, 0x01, 0x7FF, 0⟩ := by decide

/-- R80: status 30 is an N-message, 20 is not. -/
theorem test_isNMessage :
    isNMessage defaultParams #v[0, 0, 0, 0, 0, 0, 0, 0, 0, 0, 0, 0, 0x30, 0] = true ∧
    isNMessage defaultParams #v[0, 0, 0, 0, 0, 0, 0, 0, 0, 0, 0, 0, 0x20, 0] = false := by decide

/-- The frame of T27. -/
def t27 : Frame := #v[0xA5, 0x5A, 0x0B, 0x06, 1, 2, 3, 4, 5, 6, 7, 8, 9, 0x3E]

/-- T27, T28: the two other views of one frame. -/
theorem test_views : (viewExt t27).xdb5 = 1 ∧ (viewExt t27).xdb0 = 6 ∧ (viewExt t27).xaddr = 0x0708 ∧
    (viewMack t27).maddr = 0x0102 ∧ (viewMack t27).mpad0 = 8 := by decide

/-- T29: a write through the EXT view is seen in the BASE view and leaves the checksum stale. -/
theorem test_view_write : (viewBase (writeField t27 .xdb1 0xAA)).id3 = 0xAA ∧ valid (writeField t27 .xdb1 0xAA) = false ∧
    (sealFrame (writeField t27 .xdb1 0xAA))[13] = 0xE3 := by decide

/-- T30, T31: SCALE of SET at 0, 1, 7, 14, 15, 16, 255. -/
theorem test_scale_set : [0, 1, 7, 14, 15, 16, 255].map (scaleLevel defaultParams) = [0, 6, 46, 93, 100, 100, 100] := by
  decide

/-- T34: the window of BASE_ID = 0000FF00. -/
theorem test_inRange : [0xFEFF, 0xFF00, 0xFF01, 0xFF80, 0xFF81].map (fun id => inRange defaultParams id 0xFF00) =
    [false, false, true, true, false] := by decide

/-- T36: no wrap at the top. -/
theorem test_inRange_no_wrap :
    inRange defaultParams 0xFFFFFFFF 0xFFFFFFF0 = true ∧ inRange defaultParams 0x5 0xFFFFFFF0 = false := by decide

/-- R180: the rocker index of units 0, 1, 4, 5, 9. -/
theorem test_rockerIndex : [0, 1, 4, 5, 9].map rockerIndex = [3, 0, 3, 0, 0] := by decide

/-- R212: result codes. -/
theorem test_resultCodes : resultCode (.cmdOk 2) = some 0 ∧ resultCode (.cmdErr .badReq) = some 4 ∧
    writeCommandResult (.cmdErr .unit) = some false := by decide

/-! ## The opcode table as data -/

/-- Two rows of one table share no word. -/
def apart {n : Nat} (r q : TableRow n) : Bool := decide ((r.pat ^^^ q.pat) &&& r.mask &&& q.mask ≠ 0)

theorem test_builtRows_disjoint : builtRows.Pairwise (fun r q => apart r q = true) := by decide
theorem test_eventRows_disjoint : eventRows.Pairwise (fun r q => apart r q = true) := by decide
/-- The received rows overlap by design from RX_ACK_UNKNOWN on (R96); the ten before it do not. -/
theorem test_ackRows_disjoint : (receivedRows.take 10).Pairwise (fun r q => apart r q = true) := by decide

/-! ## WellFormed refuses -/

/-- R85, R89: a dim level above LEVEL_MAX. -/
theorem test_wellFormed_refuses_level : Instr.wellFormed defaultParams (.f4bsDim 101 0xFF01) = false := by decide

/-- A frame of another class (K18). -/
theorem test_wellFormed_refuses_rxAckIdBaseOk : Instr.wellFormed defaultParams (.rxAckIdBaseOk #v[0xA5, 0x5A, 0x0B, 0x06, 0x01, 0x02, 0x03, 0x04, 0x05, 0x06, 0x07, 0x08, 0x09, 0x3E]) = false := by decide

/-- A frame of another class (K18). -/
theorem test_wellFormed_refuses_rxAckNotWantedAck : Instr.wellFormed defaultParams (.rxAckNotWantedAck #v[0xA5, 0x5A, 0x0B, 0x06, 0x01, 0x02, 0x03, 0x04, 0x05, 0x06, 0x07, 0x08, 0x09, 0x3E]) = false := by decide

/-- A frame of another class (K18). -/
theorem test_wellFormed_refuses_rxAckNotAck : Instr.wellFormed defaultParams (.rxAckNotAck #v[0xA5, 0x5A, 0x0B, 0x06, 0x01, 0x02, 0x03, 0x04, 0x05, 0x06, 0x07, 0x08, 0x09, 0x3E]) = false := by decide

/-- A frame of another class (K18). -/
theorem test_wellFormed_refuses_rxAckDuplicateId : Instr.wellFormed defaultParams (.rxAckDuplicateId #v[0xA5, 0x5A, 0x0B, 0x06, 0x01, 0x02, 0x03, 0x04, 0x05, 0x06, 0x07, 0x08, 0x09, 0x3E]) = false := by decide

/-- A frame of another class (K18). -/
theorem test_wellFormed_refuses_rxAckErrHeaderSeq : Instr.wellFormed defaultParams (.rxAckErrHeaderSeq #v[0xA5, 0x5A, 0x0B, 0x06, 0x01, 0x02, 0x03, 0x04, 0x05, 0x06, 0x07, 0x08, 0x09, 0x3E]) = false := by decide

/-- A frame of another class (K18). -/
theorem test_wellFormed_refuses_rxAckErrLength : Instr.wellFormed defaultParams (.rxAckErrLength #v[0xA5, 0x5A, 0x0B, 0x06, 0x01, 0x02, 0x03, 0x04, 0x05, 0x06, 0x07, 0x08, 0x09, 0x3E]) = false := by decide

/-- A frame of another class (K18). -/
theorem test_wellFormed_refuses_rxAckErrChecksum : Instr.wellFormed defaultParams (.rxAckErrChecksum #v[0xA5, 0x5A, 0x0B, 0x06, 0x01, 0x02, 0x03, 0x04, 0x05, 0x06, 0x07, 0x08, 0x09, 0x3E]) = false := by decide

/-- A frame of another class (K18). -/
theorem test_wellFormed_refuses_rxAckErrType : Instr.wellFormed defaultParams (.rxAckErrType #v[0xA5, 0x5A, 0x0B, 0x06, 0x01, 0x02, 0x03, 0x04, 0x05, 0x06, 0x07, 0x08, 0x09, 0x3E]) = false := by decide

/-- A frame of another class (K18). -/
theorem test_wellFormed_refuses_rxAckErrTxIdrange : Instr.wellFormed defaultParams (.rxAckErrTxIdrange #v[0xA5, 0x5A, 0x0B, 0x06, 0x01, 0x02, 0x03, 0x04, 0x05, 0x06, 0x07, 0x08, 0x09, 0x3E]) = false := by decide

/-- A frame of another class (K18). -/
theorem test_wellFormed_refuses_rxAckErrIdrange : Instr.wellFormed defaultParams (.rxAckErrIdrange #v[0xA5, 0x5A, 0x0B, 0x06, 0x01, 0x02, 0x03, 0x04, 0x05, 0x06, 0x07, 0x08, 0x09, 0x3E]) = false := by decide

/-- A frame of another class (K18). -/
theorem test_wellFormed_refuses_rxAckUnknown : Instr.wellFormed defaultParams (.rxAckUnknown #v[0xA5, 0x5A, 0x0B, 0x06, 0x01, 0x02, 0x03, 0x04, 0x05, 0x06, 0x07, 0x08, 0x09, 0x3E]) = false := by decide

/-- A frame of another class (K18). -/
theorem test_wellFormed_refuses_rxBaseid : Instr.wellFormed defaultParams (.rxBaseid #v[0xA5, 0x5A, 0x0B, 0x06, 0x01, 0x02, 0x03, 0x04, 0x05, 0x06, 0x07, 0x08, 0x09, 0x3E]) = false := by decide

/-- A frame of another class (K18). -/
theorem test_wellFormed_refuses_rxRps : Instr.wellFormed defaultParams (.rxRps #v[0xA5, 0x5A, 0x0B, 0x06, 0x01, 0x02, 0x03, 0x04, 0x05, 0x06, 0x07, 0x08, 0x09, 0x3E]) = false := by decide

/-- A frame of another class (K18). -/
theorem test_wellFormed_refuses_rx4bs : Instr.wellFormed defaultParams (.rx4bs #v[0xA5, 0x5A, 0x0B, 0x06, 0x01, 0x02, 0x03, 0x04, 0x05, 0x06, 0x07, 0x08, 0x09, 0x3E]) = false := by decide

/-- A frame of another class (K1). -/
theorem test_wellFormed_refuses_rxOther : Instr.wellFormed defaultParams (.rxOther #v[0xA5, 0x5A, 0x8B, 0x58, 0x00, 0x00, 0x00, 0x00, 0x00, 0x00, 0x00, 0x00, 0x00, 0xE3]) = false := by decide

/-! ## Decoding: words written out from the spec -/

/-- K1: the word of R9. -/
theorem test_decode_rxAckIdBaseOk : (decode defaultParams (.received 0xA55A8B58000000000000000000E3)).toOption =
    some (.rxAckIdBaseOk #v[0xA5, 0x5A, 0x8B, 0x58, 0x00, 0x00, 0x00, 0x00, 0x00, 0x00, 0x00, 0x00, 0x00, 0xE3]) := by decide

/-- K2: the word of R9. -/
theorem test_decode_rxAckNotWantedAck : (decode defaultParams (.received 0xA55A8B28000000000000000000B3)).toOption =
    some (.rxAckNotWantedAck #v[0xA5, 0x5A, 0x8B, 0x28, 0x00, 0x00, 0x00, 0x00, 0x00, 0x00, 0x00, 0x00, 0x00, 0xB3]) := by decide

/-- K3: the word of R9. -/
theorem test_decode_rxAckNotAck : (decode defaultParams (.received 0xA55A8B29000000000000000000B4)).toOption =
    some (.rxAckNotAck #v[0xA5, 0x5A, 0x8B, 0x29, 0x00, 0x00, 0x00, 0x00, 0x00, 0x00, 0x00, 0x00, 0x00, 0xB4]) := by decide

/-- K4: the word of R9. -/
theorem test_decode_rxAckDuplicateId : (decode defaultParams (.received 0xA55A8B0C00000000000000000097)).toOption =
    some (.rxAckDuplicateId #v[0xA5, 0x5A, 0x8B, 0x0C, 0x00, 0x00, 0x00, 0x00, 0x00, 0x00, 0x00, 0x00, 0x00, 0x97]) := by decide

/-- K5: the word of R9. -/
theorem test_decode_rxAckErrHeaderSeq : (decode defaultParams (.received 0xA55A8B0800000000000000000093)).toOption =
    some (.rxAckErrHeaderSeq #v[0xA5, 0x5A, 0x8B, 0x08, 0x00, 0x00, 0x00, 0x00, 0x00, 0x00, 0x00, 0x00, 0x00, 0x93]) := by decide

/-- K6: the word of R9. -/
theorem test_decode_rxAckErrLength : (decode defaultParams (.received 0xA55A8B0900000000000000000094)).toOption =
    some (.rxAckErrLength #v[0xA5, 0x5A, 0x8B, 0x09, 0x00, 0x00, 0x00, 0x00, 0x00, 0x00, 0x00, 0x00, 0x00, 0x94]) := by decide

/-- K7: the word of R9. -/
theorem test_decode_rxAckErrChecksum : (decode defaultParams (.received 0xA55A8B0A00000000000000000095)).toOption =
    some (.rxAckErrChecksum #v[0xA5, 0x5A, 0x8B, 0x0A, 0x00, 0x00, 0x00, 0x00, 0x00, 0x00, 0x00, 0x00, 0x00, 0x95]) := by decide

/-- K8: the word of R9. -/
theorem test_decode_rxAckErrType : (decode defaultParams (.received 0xA55A8B0B00000000000000000096)).toOption =
    some (.rxAckErrType #v[0xA5, 0x5A, 0x8B, 0x0B, 0x00, 0x00, 0x00, 0x00, 0x00, 0x00, 0x00, 0x00, 0x00, 0x96]) := by decide

/-- K9: the word of R9. -/
theorem test_decode_rxAckErrTxIdrange : (decode defaultParams (.received 0xA55A8B22000000000000000000AD)).toOption =
    some (.rxAckErrTxIdrange #v[0xA5, 0x5A, 0x8B, 0x22, 0x00, 0x00, 0x00, 0x00, 0x00, 0x00, 0x00, 0x00, 0x00, 0xAD]) := by decide

/-- K10: the word of R9. -/
theorem test_decode_rxAckErrIdrange : (decode defaultParams (.received 0xA55A8B1A000000000000000000A5)).toOption =
    some (.rxAckErrIdrange #v[0xA5, 0x5A, 0x8B, 0x1A, 0x00, 0x00, 0x00, 0x00, 0x00, 0x00, 0x00, 0x00, 0x00, 0xA5]) := by decide

/-- K11: the word of R9. -/
theorem test_decode_rxAckUnknown : (decode defaultParams (.received 0xA55A8B98FF8000000000000000A2)).toOption =
    some (.rxAckUnknown #v[0xA5, 0x5A, 0x8B, 0x98, 0xFF, 0x80, 0x00, 0x00, 0x00, 0x00, 0x00, 0x00, 0x00, 0xA2]) := by decide

/-- K13: the word of R9. -/
theorem test_decode_rxBaseid : (decode defaultParams (.received 0xA55A0B98FF800000000000000022)).toOption =
    some (.rxBaseid #v[0xA5, 0x5A, 0x0B, 0x98, 0xFF, 0x80, 0x00, 0x00, 0x00, 0x00, 0x00, 0x00, 0x00, 0x22]) := by decide

/-- K16: the word of R9. -/
theorem test_decode_rxRps : (decode defaultParams (.received 0xA55A0B05300000000000FF013070)).toOption =
    some (.rxRps #v[0xA5, 0x5A, 0x0B, 0x05, 0x30, 0x00, 0x00, 0x00, 0x00, 0x00, 0xFF, 0x01, 0x30, 0x70]) := by decide

/-- K17: the word of R9. -/
theorem test_decode_rx4bs : (decode defaultParams (.received 0xA55A0B07000100080012345600B7)).toOption =
    some (.rx4bs #v[0xA5, 0x5A, 0x0B, 0x07, 0x00, 0x01, 0x00, 0x08, 0x00, 0x12, 0x34, 0x56, 0x00, 0xB7]) := by decide

/-- K18: the word of R9. -/
theorem test_decode_rxOther : (decode defaultParams (.received 0xA55A0B060102030405060708093E)).toOption =
    some (.rxOther #v[0xA5, 0x5A, 0x0B, 0x06, 0x01, 0x02, 0x03, 0x04, 0x05, 0x06, 0x07, 0x08, 0x09, 0x3E]) := by decide

/-- T7. -/
theorem test_decode_fRdIdbase : decodeTableWord 112 0xA55A8B58000000000000000000E3 = some (.fRdIdbase) := by decide

/-- T8. -/
theorem test_decode_fRdSwVer : decodeTableWord 112 0xA55A8B4B000000000000000000D6 = some (.fRdSwVer) := by decide

/-- T9. -/
theorem test_decode_fReset : decodeTableWord 112 0xA55A8B0A00000000000000000095 = some (.fReset) := by decide

/-- B7, first frame: DB3 = D0, rid 3, ud 0. -/
theorem test_decode_fRpsPress : decodeTableWord 112 0xA55A8B05D00000000000FF013090 = some (.fRpsPress 3 0 0x0000FF01) := by decide

/-- B7, second frame. -/
theorem test_decode_fRpsRelease : decodeTableWord 112 0xA55A8B05C00000000000FF012070 = some (.fRpsRelease 3 0x0000FF01) := by decide

/-- B11: level 2E. -/
theorem test_decode_f4bsDim : decodeTableWord 112 0xA55A8B07022E01090000FF0100CC = some (.f4bsDim 0x2E 0x0000FF01) := by decide

/-- B27. -/
theorem test_decode_f4bsTeach : decodeTableWord 112 0xA55A8B07020000000000FF800013 = some (.f4bsTeach 0x0000FF80) := by decide

/-- P1 step 1. -/
theorem test_decode_por : decodeTableWord 72 0x00000000000000000 = some (.por) := by decide

/-- P1 step 2. -/
theorem test_decode_reopen : decodeTableWord 72 0x10000000000000000 = some (.reopen) := by decide

/-- P1 step 6, first byte. -/
theorem test_decode_rxb : decodeTableWord 72 0x200000000000000A5 = some (.rxb 0xA5) := by decide

/-- P1 step 4. -/
theorem test_decode_drain : decodeTableWord 72 0x30000000000000000 = some (.drain) := by decide

/-- P1 step 3. -/
theorem test_decode_qbase : decodeTableWord 72 0x80000000000000000 = some (.qbase) := by decide

/-- P4 step 11. -/
theorem test_decode_qver : decodeTableWord 72 0x90000000000000000 = some (.qver) := by decide

/-- P4 step 12. -/
theorem test_decode_qreset : decodeTableWord 72 0xA0000000000000000 = some (.qreset) := by decide

/-- P4 step 5: ON, dimmer, unit 3, last level 55. -/
theorem test_decode_switch : decodeTableWord 72 0xB600300370000FF02 = some (.switch 0x0000FF02 3 .on 0 true 55) := by decide

/-- P3 step 4: SET, dimmer, unit 1, level 7. -/
theorem test_decode_switch_set : decodeTableWord 72 0xBA0010700FF800001 = some (.switch 0xFF800001 1 .setLevel 7 true 0) := by decide

/-- P3 step 8. -/
theorem test_decode_teach : decodeTableWord 72 0xC00000000FF800002 = some (.teach 0xFF800002) := by decide

/-- R91: the ignored payload bits may hold anything. -/
theorem test_decode_ignored_bits : decodeTableWord 68 0x2FFFFFFFFFFFFFF5A = some (.rxb 0x5A) ∧
    decodeTableWord 68 0xBDF0A00000000FF01 = none ∧ decodeTableWord 68 0x5000000000000000F = none := by decide

/-! ## The port operations, one step each -/

/-- Q5: pc, BASE_ID and TXQ after POR in the middle of a frame. -/
theorem test_por : look (fun s => (pcOf s, s.baseId, s.txq)) (exec .por { beforeChecksum with txq := [t27] }) =
    some ((.awaitSync1, 0), 0, []) := by decide

/-- X20: REOPEN in ReadingBody keeps RXBUF, WANTED and TXQ. -/
theorem test_reopen :
    look (fun s => (pcOf s, s.baseId, s.wanted, s.txq)) (exec .reopen { inBody with cursor := 7, txq := [t27] }) =
      some ((.awaitSync1, 0), 0, 14, [t27]) := by decide

/-- X6: SYNC1 in AwaitSync2 is dropped, not looked at again. -/
theorem test_rxb_sync1_twice : look pcOf (exec (.rxb 0xA5) { start with rxstate := .awaitSync2 }) =
    some (.awaitSync1, 0) := by decide

/-- X14: the checksum byte of the frame of V1. -/
theorem test_rxb_checksum : look (fun s => (pcOf s, s.events)) (exec (.rxb 0xE3) beforeChecksum) =
    some ((.awaitSync1, 0),
      [.frameOk #v[0xA5, 0x5A, 0x8B, 0x58, 0, 0, 0, 0, 0, 0, 0, 0, 0, 0xE3] (.ack (.known .idBaseOk)),
       .ack (.known .idBaseOk)]) := by decide

/-- Q2: the head leaves, the rest stays. -/
theorem test_drain : look queueAndEvents (exec .drain { start with txq := [t27, #v[1, 2, 3, 4, 5, 6, 7, 8, 9, 10, 11, 12, 13, 14]] }) =
    some ([#v[1, 2, 3, 4, 5, 6, 7, 8, 9, 10, 11, 12, 13, 14]], [.tx t27]) := by decide

/-- Q1: the empty queue. -/
theorem test_drain_empty : look queueAndEvents (exec .drain start) = some ([], [.txEmpty]) := by decide

/-- B1. -/
theorem test_qbase : look queueAndEvents (exec .qbase start) =
    some ([#v[0xA5, 0x5A, 0x8B, 0x58, 0x00, 0x00, 0x00, 0x00, 0x00, 0x00, 0x00, 0x00, 0x00, 0xE3]], [.cmdOk 1]) := by decide

/-- B2. -/
theorem test_qver : look queueAndEvents (exec .qver start) =
    some ([#v[0xA5, 0x5A, 0x8B, 0x4B, 0x00, 0x00, 0x00, 0x00, 0x00, 0x00, 0x00, 0x00, 0x00, 0xD6]], [.cmdOk 1]) := by decide

/-- B3. -/
theorem test_qreset : look queueAndEvents (exec .qreset start) =
    some ([#v[0xA5, 0x5A, 0x8B, 0x0A, 0x00, 0x00, 0x00, 0x00, 0x00, 0x00, 0x00, 0x00, 0x00, 0x95]], [.cmdOk 1]) := by decide

/-- B6. -/
theorem test_switch_rocker : look queueAndEvents (exec (.switch 0xFF01 2 .on 0 false 0) start) =
    some ([#v[0xA5, 0x5A, 0x8B, 0x05, 0x70, 0x00, 0x00, 0x00, 0x00, 0x00, 0xFF, 0x01, 0x30, 0x30],
      #v[0xA5, 0x5A, 0x8B, 0x05, 0x40, 0x00, 0x00, 0x00, 0x00, 0x00, 0xFF, 0x01, 0x20, 0xF0]], [.cmdOk 2]) := by decide

/-- B15: ON to a dimmer whose last level is 0 is DIM_OFF. -/
theorem test_switch_dim : look queueAndEvents (exec (.switch 0xFF01 1 .on 0 true 0) start) =
    some ([#v[0xA5, 0x5A, 0x8B, 0x07, 0x02, 0x00, 0x01, 0x08, 0x00, 0x00, 0xFF, 0x01, 0x00, 0x9D]], [.cmdOk 1]) := by decide

/-- B27. -/
theorem test_teach : look queueAndEvents (exec (.teach 0xFF80) start) =
    some ([#v[0xA5, 0x5A, 0x8B, 0x07, 0x02, 0x00, 0x00, 0x00, 0x00, 0x00, 0xFF, 0x80, 0x00, 0x13]], [.cmdOk 1]) := by decide

/-- B28. -/
theorem test_teach_range : look queueAndEvents (exec (.teach 0xFF00) start) =
    some ([], [.cmdErr .idRange]) := by decide

/-- B30: no room for two frames, so not even the press frame. -/
theorem test_qfull : look queueAndEvents (exec (.switch 0xFF01 1 .on 0 false 0) (withDepth 1)) =
    some ([], [.cmdErr .qFull]) := by decide

/-- B29: the reserved word of SWITCH. -/
theorem test_badreq : look queueAndEvents (step (start.withFetchWord 72 0xBC00100000000FF01)) =
    some ([], [.cmdErr .badReq]) := by decide

/-- P1 step 7: a step runs the word it is given. -/
theorem test_step : look queueAndEvents (step (start.withFetchWord 72 0xB400100000000FF01)) =
    some ([#v[0xA5, 0x5A, 0x8B, 0x05, 0x30, 0, 0, 0, 0, 0, 0xFF, 0x01, 0x30, 0xF0],
      #v[0xA5, 0x5A, 0x8B, 0x05, 0, 0, 0, 0, 0, 0, 0xFF, 0x01, 0x20, 0xB0]], [.cmdOk 2]) := by decide

/-- X3 as the first operation after reset. -/
theorem test_step_from_reset : look pcOf (step (State.reset.withFetchWord 72 0x200000000000000A5)) =
    some (.awaitSync2, 0) := by decide

/-! ## The frame rows, one step each -/

/-- T7. -/
theorem test_fRdIdbase : look queueAndEvents (exec .fRdIdbase start) =
    some ([#v[0xA5, 0x5A, 0x8B, 0x58, 0x00, 0x00, 0x00, 0x00, 0x00, 0x00, 0x00, 0x00, 0x00, 0xE3]], [.cmdOk 1]) := by decide

/-- T8. -/
theorem test_fRdSwVer : look queueAndEvents (exec .fRdSwVer start) =
    some ([#v[0xA5, 0x5A, 0x8B, 0x4B, 0x00, 0x00, 0x00, 0x00, 0x00, 0x00, 0x00, 0x00, 0x00, 0xD6]], [.cmdOk 1]) := by decide

/-- T9. -/
theorem test_fReset : look queueAndEvents (exec .fReset start) =
    some ([#v[0xA5, 0x5A, 0x8B, 0x0A, 0x00, 0x00, 0x00, 0x00, 0x00, 0x00, 0x00, 0x00, 0x00, 0x95]], [.cmdOk 1]) := by decide

/-- B8, first frame. -/
theorem test_fRpsPress : look queueAndEvents (exec (.fRpsPress 3 1 0xFF01) start) =
    some ([#v[0xA5, 0x5A, 0x8B, 0x05, 0xF0, 0x00, 0x00, 0x00, 0x00, 0x00, 0xFF, 0x01, 0x30, 0xB0]], [.cmdOk 1]) := by decide

/-- B8, second frame. -/
theorem test_fRpsRelease : look queueAndEvents (exec (.fRpsRelease 3 0xFF01) start) =
    some ([#v[0xA5, 0x5A, 0x8B, 0x05, 0xC0, 0x00, 0x00, 0x00, 0x00, 0x00, 0xFF, 0x01, 0x20, 0x70]], [.cmdOk 1]) := by decide

/-- B14. -/
theorem test_f4bsDim : look queueAndEvents (exec (.f4bsDim 55 0xFF01) start) =
    some ([#v[0xA5, 0x5A, 0x8B, 0x07, 0x02, 0x37, 0x01, 0x09, 0x00, 0x00, 0xFF, 0x01, 0x00, 0xD5]], [.cmdOk 1]) := by decide

/-- B27. -/
theorem test_f4bsTeach : look queueAndEvents (exec (.f4bsTeach 0xFF80) start) =
    some ([#v[0xA5, 0x5A, 0x8B, 0x07, 0x02, 0x00, 0x00, 0x00, 0x00, 0x00, 0xFF, 0x80, 0x00, 0x13]], [.cmdOk 1]) := by decide

/-- K1. -/
theorem test_rxAckIdBaseOk : look (fun s => (s.baseId, s.events)) (exec (.rxAckIdBaseOk #v[0xA5, 0x5A, 0x8B, 0x58, 0x00, 0x00, 0x00, 0x00, 0x00, 0x00, 0x00, 0x00, 0x00, 0xE3]) start) =
    some (0xFF00, [.frameOk #v[0xA5, 0x5A, 0x8B, 0x58, 0x00, 0x00, 0x00, 0x00, 0x00, 0x00, 0x00, 0x00, 0x00, 0xE3] (.ack (.known .idBaseOk)), .ack (.known .idBaseOk)]) := by decide

/-- K2. -/
theorem test_rxAckNotWantedAck : look (fun s => (s.baseId, s.events)) (exec (.rxAckNotWantedAck #v[0xA5, 0x5A, 0x8B, 0x28, 0x00, 0x00, 0x00, 0x00, 0x00, 0x00, 0x00, 0x00, 0x00, 0xB3]) start) =
    some (0xFF00, [.frameOk #v[0xA5, 0x5A, 0x8B, 0x28, 0x00, 0x00, 0x00, 0x00, 0x00, 0x00, 0x00, 0x00, 0x00, 0xB3] (.ack (.known .notWantedAck)), .ack (.known .notWantedAck)]) := by decide

/-- K3. -/
theorem test_rxAckNotAck : look (fun s => (s.baseId, s.events)) (exec (.rxAckNotAck #v[0xA5, 0x5A, 0x8B, 0x29, 0x00, 0x00, 0x00, 0x00, 0x00, 0x00, 0x00, 0x00, 0x00, 0xB4]) start) =
    some (0xFF00, [.frameOk #v[0xA5, 0x5A, 0x8B, 0x29, 0x00, 0x00, 0x00, 0x00, 0x00, 0x00, 0x00, 0x00, 0x00, 0xB4] (.ack (.known .notAck)), .ack (.known .notAck)]) := by decide

/-- K4. -/
theorem test_rxAckDuplicateId : look (fun s => (s.baseId, s.events)) (exec (.rxAckDuplicateId #v[0xA5, 0x5A, 0x8B, 0x0C, 0x00, 0x00, 0x00, 0x00, 0x00, 0x00, 0x00, 0x00, 0x00, 0x97]) start) =
    some (0xFF00, [.frameOk #v[0xA5, 0x5A, 0x8B, 0x0C, 0x00, 0x00, 0x00, 0x00, 0x00, 0x00, 0x00, 0x00, 0x00, 0x97] (.ack (.known .duplicateId)), .ack (.known .duplicateId)]) := by decide

/-- K5. -/
theorem test_rxAckErrHeaderSeq : look (fun s => (s.baseId, s.events)) (exec (.rxAckErrHeaderSeq #v[0xA5, 0x5A, 0x8B, 0x08, 0x00, 0x00, 0x00, 0x00, 0x00, 0x00, 0x00, 0x00, 0x00, 0x93]) start) =
    some (0xFF00, [.frameOk #v[0xA5, 0x5A, 0x8B, 0x08, 0x00, 0x00, 0x00, 0x00, 0x00, 0x00, 0x00, 0x00, 0x00, 0x93] (.ack (.known .errHeaderSeq)), .ack (.known .errHeaderSeq)]) := by decide

/-- K6. -/
theorem test_rxAckErrLength : look (fun s => (s.baseId, s.events)) (exec (.rxAckErrLength #v[0xA5, 0x5A, 0x8B, 0x09, 0x00, 0x00, 0x00, 0x00, 0x00, 0x00, 0x00, 0x00, 0x00, 0x94]) start) =
    some (0xFF00, [.frameOk #v[0xA5, 0x5A, 0x8B, 0x09, 0x00, 0x00, 0x00, 0x00, 0x00, 0x00, 0x00, 0x00, 0x00, 0x94] (.ack (.known .errLength)), .ack (.known .errLength)]) := by decide

/-- K7. -/
theorem test_rxAckErrChecksum : look (fun s => (s.baseId, s.events)) (exec (.rxAckErrChecksum #v[0xA5, 0x5A, 0x8B, 0x0A, 0x00, 0x00, 0x00, 0x00, 0x00, 0x00, 0x00, 0x00, 0x00, 0x95]) start) =
    some (0xFF00, [.frameOk #v[0xA5, 0x5A, 0x8B, 0x0A, 0x00, 0x00, 0x00, 0x00, 0x00, 0x00, 0x00, 0x00, 0x00, 0x95] (.ack (.known .errChecksum)), .ack (.known .errChecksum)]) := by decide

/-- K8. -/
theorem test_rxAckErrType : look (fun s => (s.baseId, s.events)) (exec (.rxAckErrType #v[0xA5, 0x5A, 0x8B, 0x0B, 0x00, 0x00, 0x00, 0x00, 0x00, 0x00, 0x00, 0x00, 0x00, 0x96]) start) =
    some (0xFF00, [.frameOk #v[0xA5, 0x5A, 0x8B, 0x0B, 0x00, 0x00, 0x00, 0x00, 0x00, 0x00, 0x00, 0x00, 0x00, 0x96] (.ack (.known .errType)), .ack (.known .errType)]) := by decide

/-- K9. -/
theorem test_rxAckErrTxIdrange : look (fun s => (s.baseId, s.events)) (exec (.rxAckErrTxIdrange #v[0xA5, 0x5A, 0x8B, 0x22, 0x00, 0x00, 0x00, 0x00, 0x00, 0x00, 0x00, 0x00, 0x00, 0xAD]) start) =
    some (0xFF00, [.frameOk #v[0xA5, 0x5A, 0x8B, 0x22, 0x00, 0x00, 0x00, 0x00, 0x00, 0x00, 0x00, 0x00, 0x00, 0xAD] (.ack (.known .errTxIdrange)), .ack (.known .errTxIdrange)]) := by decide

/-- K10. -/
theorem test_rxAckErrIdrange : look (fun s => (s.baseId, s.events)) (exec (.rxAckErrIdrange #v[0xA5, 0x5A, 0x8B, 0x1A, 0x00, 0x00, 0x00, 0x00, 0x00, 0x00, 0x00, 0x00, 0x00, 0xA5]) start) =
    some (0xFF00, [.frameOk #v[0xA5, 0x5A, 0x8B, 0x1A, 0x00, 0x00, 0x00, 0x00, 0x00, 0x00, 0x00, 0x00, 0x00, 0xA5] (.ack (.known .errIdrange)), .ack (.known .errIdrange)]) := by decide

/-- K11. -/
theorem test_rxAckUnknown : look (fun s => (s.baseId, s.events)) (exec (.rxAckUnknown #v[0xA5, 0x5A, 0x8B, 0x98, 0xFF, 0x80, 0x00, 0x00, 0x00, 0x00, 0x00, 0x00, 0x00, 0xA2]) start) =
    some (0xFF00, [.frameOk #v[0xA5, 0x5A, 0x8B, 0x98, 0xFF, 0x80, 0x00, 0x00, 0x00, 0x00, 0x00, 0x00, 0x00, 0xA2] (.ack .unknownCode), .ack .unknownCode]) := by decide

/-- K13. -/
theorem test_rxBaseid : look (fun s => (s.baseId, s.events)) (exec (.rxBaseid #v[0xA5, 0x5A, 0x0B, 0x98, 0xFF, 0x80, 0x00, 0x00, 0x00, 0x00, 0x00, 0x00, 0x00, 0x22]) start) =
    some (0xFF800000, [.frameOk #v[0xA5, 0x5A, 0x0B, 0x98, 0xFF, 0x80, 0x00, 0x00, 0x00, 0x00, 0x00, 0x00, 0x00, 0x22] .baseId, .baseIdSet 0xFF800000]) := by decide

/-- K16. -/
theorem test_rxRps : look (fun s => (s.baseId, s.events)) (exec (.rxRps #v[0xA5, 0x5A, 0x0B, 0x05, 0x30, 0x00, 0x00, 0x00, 0x00, 0x00, 0xFF, 0x01, 0x30, 0x70]) start) =
    some (0xFF00, [.frameOk #v[0xA5, 0x5A, 0x0B, 0x05, 0x30, 0x00, 0x00, 0x00, 0x00, 0x00, 0xFF, 0x01, 0x30, 0x70] .rps, .toInterpreter #v[0xA5, 0x5A, 0x0B, 0x05, 0x30, 0x00, 0x00, 0x00, 0x00, 0x00, 0xFF, 0x01, 0x30, 0x70]]) := by decide

/-- K17. -/
theorem test_rx4bs : look (fun s => (s.baseId, s.events)) (exec (.rx4bs #v[0xA5, 0x5A, 0x0B, 0x07, 0x00, 0x01, 0x00, 0x08, 0x00, 0x12, 0x34, 0x56, 0x00, 0xB7]) start) =
    some (0xFF00, [.frameOk #v[0xA5, 0x5A, 0x0B, 0x07, 0x00, 0x01, 0x00, 0x08, 0x00, 0x12, 0x34, 0x56, 0x00, 0xB7] .fourBs, .toInterpreter #v[0xA5, 0x5A, 0x0B, 0x07, 0x00, 0x01, 0x00, 0x08, 0x00, 0x12, 0x34, 0x56, 0x00, 0xB7]]) := by decide

/-- K18. -/
theorem test_rxOther : look (fun s => (s.baseId, s.events)) (exec (.rxOther #v[0xA5, 0x5A, 0x0B, 0x06, 0x01, 0x02, 0x03, 0x04, 0x05, 0x06, 0x07, 0x08, 0x09, 0x3E]) start) =
    some (0xFF00, [.frameOk #v[0xA5, 0x5A, 0x0B, 0x06, 0x01, 0x02, 0x03, 0x04, 0x05, 0x06, 0x07, 0x08, 0x09, 0x3E] .other, .diag #v[0xA5, 0x5A, 0x0B, 0x06, 0x01, 0x02, 0x03, 0x04, 0x05, 0x06, 0x07, 0x08, 0x09, 0x3E]]) := by decide

/-! ## Witnesses: the hypotheses of the obligations are met

One theorem for each obligation with hypotheses; for one with several clauses, one input per clause, at the
edge of the clause's range. -/

theorem std : standardLengths defaultParams := ⟨by decide, rfl, rfl⟩

theorem ok : paramsOk defaultParams = true := by decide

theorem start_atStart : atStart start := ⟨rfl, rfl, rfl⟩

/-- A configuration of R7 other than the default: LEN_FIXED 9, LEN_BIAS 5, the headers 89, twenty registers. -/
def otherParams : Params :=
  { defaultParams with lenFixed := 9, lenBias := 5, hdrAck := 0x89, hdrRadioTx := 0x89, rxbufCap := 20 }

/-- The start state under that configuration. -/
def otherStart : State := { start with params := otherParams, rxbuf := List.replicate 20 0 }

theorem otherStart_atStart : atStart otherStart := ⟨rfl, rfl, rfl⟩

/-- R7 for another P of the rule: a buffer of 20 bytes holds the longest wanted length, one of 19 does not. -/
theorem test_params_rxbufCap :
    paramsOk otherParams = true ∧ paramsOk { otherParams with rxbufCap := 19 } = false := by decide

/-- R20, R36: POR leaves RXBUF_CAP registers, whatever stood there. -/
theorem test_por_rxbufCap :
    (powerOn otherParams 3 (startOp start.toBlock)).rxbuf.length = 20 := by decide

/-- R32: EVT goes out and no agent starts it; CHKERR leaves there, a command result at CMD, a frame at TXD. -/
theorem test_ports :
    Port.evt.direction = .outward ∧ Port.evt.agent = none ∧ eventPort .chkErr = .evt ∧
      eventPort (.cmdOk 1) = .cmd ∧ eventPort (.tx (Vector.replicate 14 0)) = .txd := by decide

theorem room_start (n : Nat) : hasRoom n start := fun d h => by cases h

theorem no_room_zero (n : Nat) (h : 0 < n) : ¬ hasRoom n (withDepth 0) := fun hr => by
  have := hr 0 rfl
  simp [withDepth, start] at this
  omega

theorem window_low : idInWindow start 0x0000FF01 := by unfold idInWindow; decide
theorem window_high : idInWindow start 0x0000FF80 := by unfold idInWindow; decide
theorem window_high_withDepth : idInWindow (withDepth 0) 0x0000FF80 := by unfold idInWindow; decide
theorem below_window : ¬ idInWindow start 0x0000FF00 := by unfold idInWindow; decide
theorem above_window : ¬ idInWindow start 0x0000FF81 := by unfold idInWindow; decide

/-- The frame of V1. -/
def v1 : Frame := #v[0xA5, 0x5A, 0x8B, 0x58, 0, 0, 0, 0, 0, 0, 0, 0, 0, 0xE3]

/-- The base-ID info frame of K13. -/
def k13 : Frame := #v[0xA5, 0x5A, 0x0B, 0x98, 0xFF, 0x80, 0, 0, 0, 0, 0, 0, 0, 0x22]

theorem v1_wellFramed : wellFramed defaultParams v1 := by
  refine ⟨by decide, by decide, by decide, by decide⟩

theorem witness_StepRunsTheDecodedInstruction :
    paramsOk start.params = true ∧
      ({ start with pending := [.event 0x20000000000000055] } : State).pending = .event 0x20000000000000055 :: [] ∧
      (decode start.params (.event 0x20000000000000055)).toOption = some (.rxb 0x55) := by decide

theorem witness_PlacedTableWordRunsNext :
    start.params = defaultParams ∧ decodeTableWord 72 0x2000000000000005A = some (.rxb 0x5A) ∧
      decodeTableWord 112 0xA55A8B05700000000000FF013030 = some (.fRpsPress 1 1 0x0000FF01) ∧
      paramsOk otherStart.params = true ∧
      tableFetchWord otherStart.params 112 0xA55A8B05700000000000FF013030 =
        some (.received 0xA55A8B05700000000000FF013030) ∧
      tableFetchWord otherStart.params 112 0xA55A8905700000000000FF01302E =
        some (.built 0xA55A8905700000000000FF01302E) ∧
      (decode otherStart.params (.built 0xA55A8905700000000000FF01302E)).toOption = some (.fRpsPress 1 1 0x0000FF01) := by
  decide

/-- The first and the last of each range of reserved words, and SWITCH with cmd = 3. -/
theorem witness_ReservedEventWordsAnswerBadRequest :
    paramsOk start.params = true ∧
      (∀ op : BitVec 4, op = 4 ∨ op = 7 ∨ op = 13 ∨ op = 15 → (4 ≤ op.toNat ∧ op.toNat ≤ 7) ∨ 13 ≤ op.toNat) ∧
      (0xC00100000000FF01 : BitVec 64).extractLsb' 62 2 = 3 := by decide

theorem witness_EventWordsDecodeByTheirFields :
    (0x400100000000FF01 : BitVec 64).extractLsb' 62 2 = cmdCode .on ∧
      (0x000200000000FF80 : BitVec 64).extractLsb' 62 2 = cmdCode .off ∧
      (0xA0010700FF800001 : BitVec 64).extractLsb' 62 2 = cmdCode .setLevel ∧
      (0xC00100000000FF01 : BitVec 64).extractLsb' 62 2 = 3 := by decide

theorem witness_EncodedInstructionsDecodeBack :
    Instr.wellFormed defaultParams (.f4bsDim 100 0xFF01) = true ∧ Instr.wellFormed defaultParams (.rxOther t27) = true ∧
      Instr.wellFormed defaultParams (.rxBaseid k13) = true := by decide

theorem witness_BuiltAndEventWordsFollowTheTable :
    (decodeBuilt defaultParams (frameOfWord 0xA55A8B07026401090000FF010002)).toOption = some (.f4bsDim 100 0xFF01) ∧
      decodeBuilt defaultParams (frameOfWord 0xA55A8B07026401070000FF010000) = .error .noBuiltKind ∧
      (decodeEvent 0xC00000000FF800002).toOption = some (.teach 0xFF800002) := by
  refine ⟨by decide, rfl, by decide⟩

/-- A length field that breaks R7; and a word of no built kind. -/
theorem witness_BadConfigurationAndUnknownKindAreRefused :
    paramsOk { defaultParams with lenFixed := 0x0A } = false ∧ paramsOk start.params = true ∧
      decodeBuilt start.params (frameOfWord 0xA55A0B05300000000000FF013070) = .error .noBuiltKind := by
  refine ⟨by decide, by decide, rfl⟩

theorem witness_ByteInAwaitSync1 : start.rxstate = .awaitSync1 := rfl

theorem witness_ByteInAwaitSync2 : ({ start with rxstate := .awaitSync2 } : State).rxstate = .awaitSync2 := rfl

theorem witness_ByteInReadingHeader : ({ start with rxstate := .readingHeader } : State).rxstate = .readingHeader :=
  rfl

/-- The first body byte, and the last one of the longest frame. -/
theorem witness_ByteInReadingBody :
    inBody.cursor.toNat < inBody.rxbuf.length ∧ inBody.cursor.toNat < 31 ∧ inBody.rxstate = .readingBody ∧
      ({ inBody with cursor := 16, wanted := 18 } : State).cursor.toNat < inBody.rxbuf.length := by decide

/-- A matching byte, and one that does not match. -/
theorem witness_ByteInReadingChecksum :
    beforeChecksum.cursor.toNat < beforeChecksum.rxbuf.length ∧ beforeChecksum.rxstate = .readingChecksum ∧
      bufChk (beforeChecksum.rxbuf.set beforeChecksum.cursor.toNat 0xE3) = 0xE3 ∧
      bufChk (beforeChecksum.rxbuf.set beforeChecksum.cursor.toNat 0xE2) ≠ 0xE2 := by decide

/-- The first body byte is awaited, a byte is pending, and the step completes. -/
theorem witness_EveryStepKeepsTheReceiverInvariant :
    let s : State := { inBody with pending := [.event 0x20000000000000055] }
    standardLengths s.params ∧ receiverInv s ∧ ∃ t, step s = .next t := by
  refine ⟨std, ?_, _, rfl⟩
  refine ⟨rfl, by decide, .inr rfl, by decide, by decide, by decide, by decide, by decide, by decide⟩

/-- The same just before the checksum byte. -/
theorem witness_receiverInv_at_checksum : receiverInv beforeChecksum :=
  ⟨rfl, by decide, by decide, by decide, by decide, by decide, by decide⟩

/-- The first body byte of a frame of twenty bytes, and the place of its checksum byte. -/
theorem witness_EveryStepStoresInsideTheBuffer :
    let s : State :=
      { otherStart with rxstate := .readingBody, cursor := 3, wanted := 20, pending := [.event 0x20000000000000055] }
    paramsOk s.params = true ∧ boundsInv s ∧ (∃ t, step s = .next t) ∧
      boundsInv { s with rxstate := .readingChecksum, cursor := 19 } :=
  ⟨by decide, ⟨rfl, by decide, .inr rfl, by decide⟩, ⟨_, rfl⟩, ⟨rfl, by decide, by decide⟩⟩

theorem witness_WellFormedFrameYieldsItselfOnce :
    paramsOk start.params = true ∧ atStart start ∧ wellFramed start.params v1 :=
  ⟨ok, start_atStart, v1_wellFramed⟩

/-- The same for a frame of the other configuration. -/
theorem witness_other_wellFramed :
    paramsOk otherStart.params = true ∧ atStart otherStart ∧
      wellFramed otherStart.params #v[0xA5, 0x5A, 0x89, 0x58, 0, 0, 0, 0, 0, 0, 0, 0, 0, 0xE1] :=
  ⟨by decide, otherStart_atStart, by decide, by decide, by decide, by decide⟩

/-- A change at offset 3, at offset 13, and at offset 2 keeping the masked length. -/
theorem witness_SingleByteCorruptionIsOneChecksumError :
    paramsOk start.params = true ∧ atStart start ∧ wellFramed start.params v1 ∧ (0x59 : Byte) ≠ v1[3] ∧
      (0xE2 : Byte) ≠ v1[13] ∧ (0x0B : Byte) ≠ v1[2] ∧ (0x0B : Byte) &&& start.params.lenMask = start.params.lenFixed :=
  ⟨ok, start_atStart, v1_wellFramed, by decide, by decide, by decide, by decide⟩

/-- One garbage byte, which is not SYNC1. -/
theorem witness_GarbageIsDiscardedBeforeAFrame :
    paramsOk start.params = true ∧ atStart start ∧ wellFramed start.params v1 ∧
      start.params.sync1 ∉ ([0x5A] : List Byte) ∧
      traceRun (traceRx [0x5A]) start = .next ({ start with events := [] }, []) :=
  ⟨ok, start_atStart, v1_wellFramed, by decide, rfl⟩

/-- Bodies for the header bytes 00, 82, 8B and 0F; and the longest frame of the other configuration. -/
theorem witness_EveryFrameEndsInExactlyOneOutcome :
    paramsOk start.params = true ∧ atStart start ∧
      ([(0x00, 1), (0x82, 1), (0x8B, 10), (0x0F, 14)] : List (Byte × Nat)).all
        (fun p => decide ((List.replicate p.2 (0 : Byte)).length =
          max 1 (((p.1 &&& start.params.lenMask).toNat + start.params.lenBias) % 32 - 4))) = true ∧
      paramsOk otherStart.params = true ∧ atStart otherStart ∧
      (List.replicate 16 (0 : Byte)).length =
        max 1 ((((0x0F : Byte) &&& otherStart.params.lenMask).toNat + otherStart.params.lenBias) % 32 - 4) :=
  ⟨ok, start_atStart, by decide, by decide, otherStart_atStart, by decide⟩

theorem witness_FrameInProgressEndsWithinSeventeenBytes :
    standardLengths beforeChecksum.params ∧ receiverInv beforeChecksum ∧
      (List.replicate 17 (0 : Byte)).length = 17 :=
  ⟨std, witness_receiverInv_at_checksum, by decide⟩

theorem witness_RepeatedSync1DoesNotSynchronise : atStart start ∧ start.params.sync1 ≠ start.params.sync2 :=
  ⟨start_atStart, by decide⟩

/-- One frame per clause: a known code, an unknown code swallowed, the four type classes, and the fall
through with ACK_SWALLOW_UNKNOWN false. -/
theorem witness_ClassOfAFrame :
    paramsOk defaultParams = true ∧ paramsOk { defaultParams with ackSwallowUnknown := false } = true ∧
      hdrOf v1 = defaultParams.hdrAck ∧ orgOf v1 = ackCodeOf defaultParams.ackTable .idBaseOk ∧
      (∀ n, (0x98 : Byte) ≠ ackCodeOf defaultParams.ackTable n) ∧ defaultParams.ackSwallowUnknown = true ∧
      hdrOf k13 ≠ defaultParams.hdrAck ∧ orgOf k13 = defaultParams.orgInfIdbase ∧
      orgOf t27 ≠ defaultParams.orgInfIdbase ∧ orgOf t27 ≠ defaultParams.orgRps ∧ orgOf t27 ≠ defaultParams.org4bs := by
  refine ⟨by decide, by decide, by decide, by decide, fun n => by cases n <;> decide, rfl, by decide, by decide, by decide,
    by decide, by decide⟩

theorem witness_ChecksumMatchRunsTheClassRow :
    beforeChecksum.cursor.toNat < beforeChecksum.rxbuf.length ∧ beforeChecksum.rxstate = .readingChecksum ∧
      bufChk (beforeChecksum.rxbuf.set beforeChecksum.cursor.toNat 0xE3) = 0xE3 := by decide

theorem witness_QueriesEnqueueOneZeroPayloadFrame : hasRoom 1 start ∧ ¬ hasRoom 1 (withDepth 0) :=
  ⟨room_start 1, no_room_zero 1 (by decide)⟩

theorem witness_QueryRowsEnqueueTheirFrame : hasRoom 1 start := room_start 1

theorem witness_NodeRowsEnqueueTheirFrame :
    idInWindow start 0x0000FF80 ∧ hasRoom 1 start :=
  ⟨window_high, room_start 1⟩

theorem witness_FrameRowsTurnedAwayChangeNothing :
    ¬ hasRoom 1 (withDepth 0) ∧ ¬ idInWindow start 0x0000FF00 ∧ idInWindow (withDepth 0) 0x0000FF80 :=
  ⟨no_room_zero 1 (by decide), below_window, window_high_withDepth⟩

/-- Units 9 and 10, and identifiers just outside the window. -/
theorem witness_SwitchValidationFailures :
    start.params.unitLimit ≤ (10 : Byte).toNat ∧ (9 : Byte).toNat < start.params.unitLimit ∧
      ¬ idInWindow start 0x0000FF00 ∧ ¬ idInWindow start 0x0000FF81 :=
  ⟨by decide, by decide, below_window, above_window⟩

theorem witness_RockerSwitchEnqueuesPressThenRelease :
    (9 : Byte).toNat < start.params.unitLimit ∧ idInWindow start 0x0000FF01 ∧ Cmd.off ≠ .setLevel ∧ hasRoom 2 start ∧
      idInWindow (withDepth 0) 0x0000FF80 ∧ ¬ hasRoom 2 (withDepth 0) :=
  ⟨by decide, window_low, by decide, room_start 2, window_high_withDepth, no_room_zero 2 (by decide)⟩

theorem witness_DimSwitchEnqueuesOneDimFrame :
    (0 : Byte).toNat < start.params.unitLimit ∧ idInWindow start 0x0000FF01 ∧
      scale start.params .setLevel 15 0 false = some 100 ∧ scale start.params .on 0 0 true = some 0 ∧ hasRoom 1 start ∧
      ¬ hasRoom 1 (withDepth 0) :=
  ⟨by decide, window_low, by decide, by decide, room_start 1, no_room_zero 1 (by decide)⟩

theorem witness_TeachEnqueuesOneTeachInFrame :
    ¬ idInWindow start 0x0000FF81 ∧ (idInWindow (withDepth 0) 0x0000FF80 ∧ ¬ hasRoom 1 (withDepth 0)) ∧
      idInWindow start 0x0000FF80 ∧ hasRoom 1 start :=
  ⟨above_window, ⟨window_high_withDepth, no_room_zero 1 (by decide)⟩, window_high, room_start 1⟩

theorem witness_IdentifierWindowDoesNotWrap :
    defaultParams.baseSpan = 128 ∧ 0xFFFFFF80 ≤ (0xFFFFFF80 : NodeId).toNat := by decide

theorem witness_FailedCommandsChangeNothing :
    (Instr.teach 0xFF00).agent = .command ∧
      look (fun t => decide (Event.cmdErr .idRange ∈ t.events)) (exec (.teach 0xFF00) start) = some true := by decide

theorem witness_CommandsAppendNothingExactlyOnError : (Instr.teach 0xFF80).agent = .command := rfl

theorem witness_AppendedFramesNameNodesInTheWindow :
    (Instr.teach 0xFF80).agent = .command ∧
      look (fun t => t.txq) (exec (.teach 0xFF80) start) = some (start.txq ++ [teachFrame defaultParams 0xFF80]) := by decide

/-- A queue that holds a query frame, with a DRAIN pending. -/
theorem witness_EveryStepKeepsTheQueueInvariant :
    let s : State := { start with txq := [queryFrame defaultParams 0x58], pending := [.event 0x30000000000000000] }
    queueInv s ∧ ∃ t, step s = .next t := by
  refine ⟨⟨fun f hf => ?_, fun d h => by cases h⟩, _, rfl⟩
  rw [List.mem_singleton.1 hf]
  exact ⟨by decide, by decide, by decide, by decide, .inl (.inl rfl)⟩

theorem witness_RockerSwitchIsItsTwoFrameRows :
    (9 : Byte).toNat < start.params.unitLimit ∧ idInWindow start 0x0000FF80 ∧ Cmd.on ≠ .setLevel ∧ hasRoom 2 start :=
  ⟨by decide, window_high, by decide, room_start 2⟩

theorem witness_BuiltFramesAreReceivedBack :
    paramsOk start.params = true ∧ atStart start ∧ builtKind start.params (teachFrame start.params 0xFF80) :=
  ⟨ok, start_atStart, .inr ⟨0xFF80, .inr (.inr (.inr rfl))⟩⟩

theorem witness_EchoOfBuiltFramesIsSwallowed :
    paramsOk defaultParams = true ∧ hdrBuild defaultParams = defaultParams.hdrAck ∧
      defaultParams.hdrRadioTx = defaultParams.hdrAck ∧ defaultParams.ackSwallowUnknown = true ∧
      builtKind defaultParams (queryFrame defaultParams defaultParams.orgRdIdbase) :=
  ⟨by decide, by decide, by decide, rfl, .inl (.inl rfl)⟩

theorem witness_DrainHandsOutTheQueueInOrder :
    start.txq = [] ∧ ({ start with txq := [t27, v1] } : State).txq = t27 :: [v1] := ⟨rfl, rfl⟩

/-- A capture changes BASE_ID, a byte changes RXBUF and CURSOR, REOPEN changes pc, DRAIN takes the head of TXQ, and
POR counts a reset. -/
theorem witness_OnlyTheOwnersWrite :
    look (fun t => decide (t.baseId ≠ start.baseId)) (exec (.rxBaseid k13) start) = some true ∧
      look (fun t => decide (t.rxbuf ≠ inBody.rxbuf ∧ t.cursor ≠ inBody.cursor)) (exec (.rxb 0x55) inBody) = some true ∧
      look (fun t => decide (t.rxstate ≠ inBody.rxstate)) (exec .reopen inBody) = some true ∧
      look (fun t => t.txq) (exec .drain { start with txq := [t27, v1] }) = some [v1] ∧
      look (fun t => decide (t.fresh ≠ start.fresh)) (exec .por start) = some true ∧
      (Instr.rxBaseid k13).agent = .receive ∧ Instr.qbase.agent = .command := by decide

/-- One operation for each port that carries any, completing. -/
theorem witness_OperationsSeeOnlyTheBlockAndAnswerAtTheirPorts :
    (∃ t, exec (.teach 0xFF80) start = .next t) ∧ (Instr.teach 0xFF80).port = some .cmd ∧
      (∃ t, exec .drain start = .next t) ∧ Instr.drain.port = some .txd ∧
      (∃ t, exec (.rxb 0xE3) beforeChecksum = .next t) ∧ (Instr.rxb 0xE3).port = some .rx ∧
      (∃ t, exec .reopen inBody = .next t) ∧ Instr.reopen.port = some .ctl :=
  ⟨⟨_, rfl⟩, rfl, ⟨_, rfl⟩, rfl, ⟨_, rfl⟩, rfl, ⟨_, rfl⟩, rfl⟩

theorem witness_QueriesAndBytesCommute : (Instr.qver = .qbase ∨ Instr.qver = .qver ∨ Instr.qver = .qreset) :=
  .inr (.inl rfl)

theorem witness_NothingHappensWithoutAnOperation :
    paramsOk inBody.params = true ∧ inBody.pending = [] ∧ 0 < 1 := by decide

theorem witness_ChecksumIsTheSumOfElevenBytes : 13 ≤ 14 ∧ 13 ≤ start.rxbuf.length := by decide

/-- A valid frame, with a new byte at offset 2, at offset 12 and at offset 13. -/
theorem witness_CodecProperties :
    valid v1 = true ∧ (0x0B : Byte) ≠ v1[2] ∧ (0x30 : Byte) ≠ v1[12] ∧ (0xE2 : Byte) ≠ v1[13] := by decide


end Sys2Proof.Tests
end

section
/-! The step as equations, the words withFetchWord places, and the statements of 00_scope.md about them
(R6, R7; notes/assumptions/7.md, 13.md, 15.md and 16.md). -/

namespace Sys2Proof.Machine

/-! ## The step, one equation per case of the fetch -/

/-- R7, with R83 and R84 (notes/assumptions/16.md). -/
theorem step_of_not_paramsOk {s : State} (hp : paramsOk s.params = false) : step s = .refused .badConfig := by
  simp [step, fetch, hp]

/-- The next operation of the total order is performed (R57). -/
theorem step_of_decode_ok {s : State} {w : FetchWord} {rest : List FetchWord} {i : Instr}
    (hp : paramsOk s.params = true) (hq : s.pending = w :: rest) (hd : decode s.params w = .ok i) :
    step s = exec i { s with pending := rest } := by
  simp [step, fetch, hp, hq, hd]

/-- R85 names every kind the block builds; a built word of none of them is refused (notes/assumptions/15.md). -/
theorem step_of_decode_noBuiltKind {s : State} {w : FetchWord} {rest : List FetchWord}
    (hp : paramsOk s.params = true) (hq : s.pending = w :: rest)
    (hd : decode s.params w = .error .noBuiltKind) : step s = .refused .noBuiltKind := by
  simp [step, fetch, hp, hq, hd]

/-! ## Words of the opcode table -/

theorem paramsOk_defaultParams : paramsOk defaultParams = true := by decide

theorem decodeTableWord_eq_some {nbits w : Nat} {i : Instr} (h : decodeTableWord nbits w = some i) :
    ∃ fw, tableFetchWord defaultParams nbits w = some fw ∧ decode defaultParams fw = .ok i := by
  unfold decodeTableWord at h
  cases ht : tableFetchWord defaultParams nbits w with
  | none => simp [ht] at h
  | some fw =>
    cases hd : decode defaultParams fw with
    | error e => simp [ht, hd, Except.toOption] at h
    | ok j =>
      simp only [ht, hd, Except.toOption, Option.some.injEq] at h
      exact ⟨fw, rfl, h ▸ hd⟩

/-- The direction a frame word is given is one in which it decodes: built only when it is of a built kind, and
every received frame has a class (R86). -/
theorem tableFetchWord_frame_decodes (p : Params) {w : Nat} (hw : w < 2 ^ 112) :
    ∃ fw i, tableFetchWord p 112 w = some fw ∧ decode p fw = .ok i := by
  cases hb : decodeBuilt p (frameOfWord (BitVec.ofNat 112 w)) with
  | ok i =>
    have ht : tableFetchWord p 112 w = some (.built (BitVec.ofNat 112 w)) := by
      simp only [tableFetchWord, if_true, if_pos hw, hb]
    exact ⟨_, i, ht, hb⟩
  | error e =>
    have ht : tableFetchWord p 112 w = some (.received (BitVec.ofNat 112 w)) := by
      simp only [tableFetchWord, if_true, if_pos hw, hb]
    exact ⟨_, _, ht, rfl⟩

theorem withFetchWord_of_tableFetchWord {s : State} {nbits w : Nat} {fw : FetchWord}
    (ht : tableFetchWord s.params nbits w = some fw) :
    s.withFetchWord nbits w = { s with pending := fw :: s.pending } := by
  simp only [State.withFetchWord, placeWord, ht]

/-- Placing a word and taking it again leaves the state as it was, so the step is exec on that state. -/
theorem step_withFetchWord {s : State} {nbits w : Nat} {fw : FetchWord} {i : Instr}
    (hp : paramsOk s.params = true) (ht : tableFetchWord s.params nbits w = some fw)
    (hd : decode s.params fw = .ok i) : step (s.withFetchWord nbits w) = exec i s := by
  rw [withFetchWord_of_tableFetchWord ht]
  exact step_of_decode_ok hp rfl hd

/-! ## The statements -/

/-- Settles O2: the table's word is placed in a form that decodes, and the step runs what it decodes to. -/
theorem placedTableWordRunsNext : Obligations.PlacedTableWordRunsNext := by
  refine ⟨?default, fun s nbits w fw i => step_withFetchWord, ?frame⟩
  case default =>
    intro s nbits w i hs h
    obtain ⟨fw, ht, hd⟩ := decodeTableWord_eq_some h
    rw [← hs] at ht hd
    exact step_withFetchWord (hs ▸ paramsOk_defaultParams) ht hd
  case frame =>
    intro s w hp hw
    obtain ⟨fw, i, ht, hd⟩ := tableFetchWord_frame_decodes s.params hw
    exact ⟨i, step_withFetchWord hp ht hd⟩

/-- Settles O9, by the two refusing cases of the fetch. -/
theorem badConfigurationAndUnknownKindAreRefused : Obligations.BadConfigurationAndUnknownKindAreRefused :=
  ⟨fun _ => step_of_not_paramsOk, fun _ _ _ hp hq hd => step_of_decode_noBuiltKind hp hq hd⟩

end Sys2Proof.Machine
end

section
/-! What an operation changes and which events it returns, said once for all instructions; the receiver
invariants of 10_state.md R26 under every step; and the statements of 10_state.md (R21, R26, R31,
R32, R36). -/

namespace Sys2Proof.Machine

open Sys2Proof.Safety

/-! ## Command operations: frames appended and one result -/

/-- From `r` to `r'` a command operation has run: frames appended to TXQ, one result emitted for CMD, and
nothing else changed (R170, R182). -/
def CommandEffect (r r' : OpState) : Prop :=
  ∃ (new : List Frame) (e : Event), eventPort e = .cmd ∧
    r' = { r with txq := r.txq ++ new, emitted := r.emitted ++ [e] }

theorem commandEffect_cmdErr (c : ErrCode) (r : OpState) :
    CommandEffect r { r with emitted := r.emitted ++ [.cmdErr c] } :=
  ⟨[], .cmdErr c, rfl, by rw [List.append_nil]⟩

theorem buildOne_commandEffect (p : Params) (t : Frame) (r : OpState) : CommandEffect r (buildOne p t r) := by
  obtain ⟨_, hb⟩ | ⟨_, hb⟩ := buildOne_cases p t r <;> rw [hb]
  · exact ⟨[sealFrame t], .cmdOk 1, rfl, rfl⟩
  · exact commandEffect_cmdErr .qFull r

theorem buildForNode_commandEffect (p : Params) (id : NodeId) (t : Frame) (r : OpState) :
    CommandEffect r (buildForNode p id t r) := by
  obtain ⟨_, hb⟩ | ⟨_, hb⟩ := buildForNode_cases p id t r <;> rw [hb]
  · exact buildOne_commandEffect p t r
  · exact commandEffect_cmdErr .idRange r

theorem rockerPath_commandEffect (p : Params) (id : NodeId) (unit : Byte) (cmd : Cmd) (r : OpState) :
    CommandEffect r (rockerPath p id unit cmd r) := by
  obtain ⟨_, hb⟩ | ⟨_, hb⟩ := rockerPath_cases p id unit cmd r <;> rw [hb]
  · exact ⟨_, .cmdOk 2, rfl, rfl⟩
  · exact commandEffect_cmdErr .qFull r

theorem switchCommand_commandEffect (p : Params) (id : NodeId) (unit : Byte) (cmd : Cmd) (level : Byte)
    (isDimmer : Bool) (lastLevel : Byte) (r : OpState) :
    CommandEffect r (switchCommand p id unit cmd level isDimmer lastLevel r) := by
  obtain ⟨_, hb⟩ | ⟨_, _, hb⟩ | ⟨_, _, pct, _, hb⟩ | ⟨_, _, _, hb⟩ :=
    switchCommand_cases p id unit cmd level isDimmer lastLevel r <;> rw [hb]
  · exact commandEffect_cmdErr .unit r
  · exact commandEffect_cmdErr .idRange r
  · exact buildOne_commandEffect p (dimT p pct id) r
  · exact rockerPath_commandEffect p id unit cmd r

/-! ## All an operation can do -/

theorem next_perform_of_commandEffect {op : Params → OpState → OpState} {s t : State}
    (hop : ∀ p r, CommandEffect r (op p r))
    (h : (.next (perform op s) : Host.Outcome State Fault Refusal) = .next t) :
    ∃ (new : List Frame) (e : Event), eventPort e = .cmd ∧ t = { s with txq := s.txq ++ new, events := [e] } := by
  obtain ⟨new, e, he, hr⟩ := hop s.params (startOp s.toBlock)
  cases h
  exact ⟨new, e, he, by rw [perform_eq, hr]; rfl⟩

theorem next_perform_deliverAs {cls : FrameClass} {f : Frame} {s t : State}
    (h : (.next (perform (fun _ => deliverAs cls f) s) : Host.Outcome State Fault Refusal) = .next t) :
    ∃ (cls : FrameClass) (f : Frame),
      t = { s with baseId := capturedBase cls f s.baseId, events := [.frameOk f cls, followUp cls f] } := by
  cases h
  exact ⟨cls, f, by rw [perform_eq, deliverAs_eq]; rfl⟩

/-- DRAIN takes the head of TXQ, if there is one, and answers with one event at TXD (R202). -/
theorem perform_popHead (s : State) :
    ∃ e, eventPort e = .txd ∧ perform (fun _ => popHead) s = { s with txq := s.txq.tail, events := [e] } := by
  cases hq : s.txq with
  | nil => exact ⟨.txEmpty, rfl, by rw [perform_eq, popHead_nil hq, List.tail_nil, ← hq]; rfl⟩
  | cons f rest => exact ⟨.tx f, rfl, by rw [perform_eq, popHead_cons hq]; rfl⟩

/-- All an operation that answers a next state can have done, by its agent (R56). -/
theorem exec_next_cases {i : Instr} {s t : State} (h : exec i s = .next t) :
    (i.agent = .command ∧ ∃ (new : List Frame) (e : Event), eventPort e = .cmd ∧
        t = { s with txq := s.txq ++ new, events := [e] }) ∨
      (i.agent = .receive ∧ ∃ (cls : FrameClass) (f : Frame),
        t = { s with baseId := capturedBase cls f s.baseId, events := [.frameOk f cls, followUp cls f] }) ∨
      (∃ b, i = .rxb b ∧ t = perform (fun p => rxByte p b) s) ∨
      (i = .drain ∧ ∃ e, eventPort e = .txd ∧ t = { s with txq := s.txq.tail, events := [e] }) ∨
      (i = .reopen ∧ t = { s with rxstate := .awaitSync1, cursor := 0, baseId := 0, events := [] }) ∨
      (i = .por ∧ t = perform (fun p => powerOn p s.fresh) { s with fresh := s.fresh + 1 }) := by
  cases i with
  | fRdIdbase | fRdSwVer | fReset | qbase | qver | qreset =>
    exact .inl ⟨rfl, next_perform_of_commandEffect (fun p r => buildOne_commandEffect p _ r) h⟩
  | fRpsPress | fRpsRelease | f4bsDim | f4bsTeach | teach =>
    exact .inl ⟨rfl, next_perform_of_commandEffect (fun p r => buildForNode_commandEffect p _ _ r) h⟩
  | switch id unit cmd level isDimmer lastLevel =>
    exact .inl ⟨rfl, next_perform_of_commandEffect
      (fun p r => switchCommand_commandEffect p id unit cmd level isDimmer lastLevel r) h⟩
  | rxAckIdBaseOk | rxAckNotWantedAck | rxAckNotAck | rxAckDuplicateId | rxAckErrHeaderSeq | rxAckErrLength
  | rxAckErrChecksum | rxAckErrType | rxAckErrTxIdrange | rxAckErrIdrange | rxAckUnknown | rxBaseid | rxRps
  | rx4bs | rxOther =>
    exact .inr (.inl ⟨rfl, next_perform_deliverAs h⟩)
  | rxb b => cases h; exact .inr (.inr (.inl ⟨b, rfl, rfl⟩))
  | drain =>
    obtain ⟨e, he, hd⟩ := perform_popHead s
    cases h
    exact .inr (.inr (.inr (.inl ⟨rfl, e, he, hd⟩)))
  | reopen => cases h; exact .inr (.inr (.inr (.inr (.inl ⟨rfl, rfl⟩))))
  | por => cases h; exact .inr (.inr (.inr (.inr (.inr ⟨rfl, rfl⟩))))

/-- Every instruction is one operation on P and the block, chosen by the instruction and, for POR, by the number
of the reset (R21). -/
theorem exec_eq_perform (i : Instr) :
    ∃ (op : Nat → Params → OpState → OpState) (count : Nat → Nat),
      ∀ s, exec i s = .next (perform (op s.fresh) { s with fresh := count s.fresh }) := by
  cases i with
  | por => exact ⟨fun n p => powerOn p n, (· + 1), exec_por⟩
  | _ => exact ⟨fun _ => _, id, fun _ => rfl⟩

theorem exec_params {i : Instr} {s t : State} (h : exec i s = .next t) : t.params = s.params := by
  obtain ⟨op, count, hop⟩ := exec_eq_perform i
  rw [hop] at h
  cases h
  rfl

/-- What waits and what was reported before take no part in an operation (R21, R31). -/
theorem exec_with_pending_events {i : Instr} {s t : State} (h : exec i s = .next t) (q : List FetchWord)
    (es : List Event) : exec i { s with pending := q, events := es } = .next { t with pending := q } := by
  obtain ⟨op, count, hop⟩ := exec_eq_perform i
  rw [hop] at h ⊢
  cases h
  rfl

/-- A command operation appends frames to TXQ and reports one result (R170, R212). -/
theorem command_next {i : Instr} {s t : State} (ha : i.agent = .command) (h : exec i s = .next t) :
    ∃ (new : List Frame) (e : Event), eventPort e = .cmd ∧ t = { s with txq := s.txq ++ new, events := [e] } := by
  obtain ⟨_, hc⟩ | ⟨hr, _⟩ | ⟨b, rfl, _⟩ | ⟨rfl, _⟩ | ⟨rfl, _⟩ | ⟨rfl, _⟩ := exec_next_cases h
  · exact hc
  · exact absurd (ha.symm.trans hr) (by decide)
  all_goals cases ha

/-! ## RXB, state by state -/

theorem perform_rxByte_awaitSync1 {s : State} (b : Byte) (hst : s.rxstate = .awaitSync1) :
    perform (fun p => rxByte p b) s =
      { s with
        rxstate := if b = s.params.sync1 then .awaitSync2 else .awaitSync1
        cursor := 0
        events := [] } := by
  rw [perform_eq, rxByte_awaitSync1 _ _ hst]
  rfl

theorem perform_rxByte_awaitSync2 {s : State} (b : Byte) (hst : s.rxstate = .awaitSync2) :
    perform (fun p => rxByte p b) s =
      { s with
        rxstate := if b = s.params.sync2 then .readingHeader else .awaitSync1
        cursor := 0
        events := [] } := by
  rw [perform_eq, rxByte_awaitSync2 _ _ hst]
  rfl

theorem perform_rxByte_readingHeader {s : State} (b : Byte) (hst : s.rxstate = .readingHeader) :
    perform (fun p => rxByte p b) s =
      { s with
        rxbuf := ((s.rxbuf.set 0 s.params.sync1).set 1 s.params.sync2).set 2 b
        wanted := wantedLen s.params b
        rxstate := .readingBody
        cursor := 3
        events := [] } := by
  rw [perform_eq, rxByte_readingHeader _ _ hst]
  rfl

theorem perform_rxByte_readingBody {s : State} (b : Byte) (hst : s.rxstate = .readingBody) :
    perform (fun p => rxByte p b) s =
      { s with
        rxbuf := s.rxbuf.set s.cursor.toNat b
        cursor := s.cursor + 1
        rxstate := if s.wanted.toNat ≤ (s.cursor + 1).toNat + 1 then .readingChecksum else .readingBody
        events := [] } := by
  rw [perform_eq, rxByte_readingBody _ _ hst]
  by_cases hdone : s.wanted.toNat ≤ (s.cursor + 1).toNat + 1
  · rw [endBody_done hdone, if_pos hdone]
    rfl
  · rw [endBody_more hdone, if_neg hdone, ← hst]
    rfl

theorem perform_rxByte_readingChecksum_ok {s : State} {b : Byte} (hst : s.rxstate = .readingChecksum)
    {x : RxBuf} (hx : x = s.rxbuf.set s.cursor.toNat b) (hc : bufChk x = b) :
    perform (fun p => rxByte p b) s =
      { s with
        rxbuf := x
        rxstate := .awaitSync1
        cursor := 0
        baseId := capturedBase (classify s.params (frameOf x)) (frameOf x) s.baseId
        events := [.frameOk (frameOf x) (classify s.params (frameOf x)),
          followUp (classify s.params (frameOf x)) (frameOf x)] } := by
  subst hx
  rw [perform_eq, rxByte_readingChecksum _ _ hst, endFrame_ok]
  · rfl
  · exact hc

theorem perform_rxByte_readingChecksum_bad {s : State} {b : Byte} (hst : s.rxstate = .readingChecksum)
    {x : RxBuf} (hx : x = s.rxbuf.set s.cursor.toNat b) (hc : bufChk x ≠ b) :
    perform (fun p => rxByte p b) s =
      { s with rxbuf := x, rxstate := .awaitSync1, cursor := 0, events := [.chkErr] } := by
  subst hx
  rw [perform_eq, rxByte_readingChecksum _ _ hst, endFrame_bad]
  · rfl
  · exact hc

theorem eventPort_followUp (cls : FrameClass) (f : Frame) : eventPort (followUp cls f) = .evt := by
  cases cls <;> rfl

/-- A byte reports nothing inside a frame, and at its end CHKERR, or FRAME_OK and the event of its class: all of
them leave at EVT (R32, R136, R154). -/
theorem perform_rxByte_events_at_evt (b : Byte) (s : State) :
    ∀ e ∈ (perform (fun p => rxByte p b) s).events, eventPort e = .evt := by
  cases hst : s.rxstate with
  | awaitSync1 => rw [perform_rxByte_awaitSync1 b hst]; exact List.forall_mem_nil _
  | awaitSync2 => rw [perform_rxByte_awaitSync2 b hst]; exact List.forall_mem_nil _
  | readingHeader => rw [perform_rxByte_readingHeader b hst]; exact List.forall_mem_nil _
  | readingBody => rw [perform_rxByte_readingBody b hst]; exact List.forall_mem_nil _
  | readingChecksum =>
    by_cases hc : bufChk (s.rxbuf.set s.cursor.toNat b) = b
    · rw [perform_rxByte_readingChecksum_ok hst rfl hc]
      exact List.forall_mem_cons.mpr ⟨rfl, List.forall_mem_singleton.mpr (eventPort_followUp _ _)⟩
    · rw [perform_rxByte_readingChecksum_bad hst rfl hc]
      exact List.forall_mem_singleton.mpr rfl

/-! ## The ports -/

/-- An operation is started by the agent of the port that carries it (R32, R56). -/
theorem agent_of_port {i : Instr} {q : Port} (h : i.port = some q) : q.agent = some i.agent := by
  cases i <;> cases h <;> rfl

theorem eq_drain_of_port_txd {i : Instr} (h : i.port = some .txd) : i = .drain := by
  cases i with
  | drain => rfl
  | _ => cases h

theorem eq_rxb_of_port_rx {i : Instr} (h : i.port = some .rx) : ∃ b, i = .rxb b := by
  cases i with
  | rxb b => exact ⟨b, rfl⟩
  | _ => cases h

theorem eq_por_or_reopen_of_port_ctl {i : Instr} (h : i.port = some .ctl) : i = .por ∨ i = .reopen := by
  cases i with
  | por => exact .inl rfl
  | reopen => exact .inr rfl
  | _ => cases h

/-! ## The receiver invariants of R26 -/

theorem length_porRxbuf (n cap : Nat) : (Config.porRxbuf n cap).length = cap := by
  simp [Config.porRxbuf]

/-- Outside a frame R26 asks of CURSOR and of the size of RXBUF only. -/
theorem receiverInv_outside_frame {s : State}
    (hst : s.rxstate = .awaitSync1 ∨ s.rxstate = .awaitSync2 ∨ s.rxstate = .readingHeader) :
    receiverInv s ↔ bufferSized s ∧ s.cursor = 0 := by
  obtain h | h | h := hst <;> simp [receiverInv, h]

theorem receiverInv_readingBody {s : State} (hst : s.rxstate = .readingBody) :
    receiverInv s ↔ bufferSized s ∧ 3 ≤ s.cursor.toNat ∧
      (s.cursor.toNat + 1 < s.wanted.toNat ∨ s.cursor.toNat = 3) ∧ s.cursor.toNat ≤ 16 ∧ headerStored s := by
  simp [receiverInv, hst]

theorem receiverInv_readingChecksum {s : State} (hst : s.rxstate = .readingChecksum) :
    receiverInv s ↔ bufferSized s ∧ s.cursor.toNat = max (s.wanted.toNat - 1) 4 ∧ headerStored s := by
  simp [receiverInv, hst]

theorem receiverInv_bufferSized {s : State} (h : receiverInv s) : bufferSized s := h.1

/-- R36: POR leaves RXBUF with its registers and pc at the start. -/
theorem receiverInv_por {s t : State} (h : exec .por s = .next t) : receiverInv t := by
  cases h
  exact (receiverInv_outside_frame (.inl rfl)).mpr ⟨length_porRxbuf s.fresh s.params.rxbufCap, rfl⟩

/-! ### Lengths (R7, R78) -/

theorem lenMask_add_lenBias_le_rxbufCap {p : Params} (hp : paramsOk p = true) :
    p.lenMask.toNat + p.lenBias ≤ p.rxbufCap := by
  simp only [paramsOk, lengthsOk, Bool.and_eq_true, decide_eq_true_eq] at hp
  obtain ⟨⟨⟨⟨⟨⟨_, hcap⟩, _⟩, _⟩, _⟩, _⟩, _⟩ := hp
  exact hcap

theorem eighteen_le_length_rxbuf {s : State} (hp : standardLengths s.params) (hb : bufferSized s) :
    18 ≤ s.rxbuf.length := by
  obtain ⟨hok, hmask, hbias⟩ := hp
  have hcap := lenMask_add_lenBias_le_rxbufCap hok
  rw [hmask, hbias] at hcap
  exact hb ▸ hcap

/-- No bit of the wanted length is lost while LEN_MASK + LEN_BIAS fits in WANTED (R27, R78). -/
theorem wantedLen_toNat {p : Params} (h : Byte) (hp : p.lenMask.toNat + p.lenBias < 32) :
    (wantedLen p h).toNat = (h &&& p.lenMask).toNat + p.lenBias := by
  have hle : (h &&& p.lenMask).toNat ≤ p.lenMask.toNat := by
    rw [BitVec.toNat_and]; exact Nat.and_le_right
  rw [wantedLen, BitVec.toNat_ofNat, Nat.mod_eq_of_lt (by omega)]

/-! ### The header part of RXBUF (R26 (d)) -/

/-- After the header byte the three registers and WANTED are those of the frame being received (R134). -/
theorem headerStored_after_header {s : State} (b : Byte) (hp : standardLengths s.params) (hb : bufferSized s) :
    headerStored
      { s with
        rxbuf := ((s.rxbuf.set 0 s.params.sync1).set 1 s.params.sync2).set 2 b
        wanted := wantedLen s.params b } := by
  have hcap := eighteen_le_length_rxbuf hp hb
  obtain ⟨_, hmask, hbias⟩ := hp
  have hw : (wantedLen s.params b).toNat = (b &&& 0x0F).toNat + 3 := by
    rw [wantedLen_toNat b (by rw [hmask, hbias]; decide), hmask, hbias]
  have hle : b.toNat &&& 15 ≤ 15 := Nat.and_le_right
  have h0 : 0 < s.rxbuf.length := by omega
  have h1 : 1 < s.rxbuf.length := by omega
  have h2 : 2 < s.rxbuf.length := by omega
  refine ⟨?_, ?_, ?_, ?_, ?_⟩ <;> simp [hw, reg_set, h0, h1, h2]
  omega

/-- A store behind the header part leaves it as it was (R135, R136). -/
theorem headerStored_set {s : State} (b : Byte) {i : Nat} (hi : 3 ≤ i) (hlen : i < s.rxbuf.length)
    (h : headerStored s) : headerStored { s with rxbuf := s.rxbuf.set i b } := by
  have hreg (j : Nat) (hj : j < 3) : reg (s.rxbuf.set i b) j = reg s.rxbuf j := by
    rw [reg_set _ _ _ _ hlen, if_neg (by omega)]
  obtain ⟨hlo, hhi, hr0, hr1, hr2⟩ := h
  refine ⟨hlo, hhi, ?_, ?_, ?_⟩
  · exact (hreg 0 (by omega)).trans hr0
  · exact (hreg 1 (by omega)).trans hr1
  · exact hr2.trans (by simp only [hreg 2 (by omega)])

/-! ### A byte, state by state -/

theorem receiverInv_rxb_awaitSync1 {s : State} (b : Byte) (hst : s.rxstate = .awaitSync1) (hb : bufferSized s) :
    receiverInv (perform (fun p => rxByte p b) s) := by
  rw [perform_rxByte_awaitSync1 b hst]
  refine (receiverInv_outside_frame ?_).mpr ⟨hb, rfl⟩
  by_cases hs : b = s.params.sync1 <;> simp [hs]

theorem receiverInv_rxb_awaitSync2 {s : State} (b : Byte) (hst : s.rxstate = .awaitSync2) (hb : bufferSized s) :
    receiverInv (perform (fun p => rxByte p b) s) := by
  rw [perform_rxByte_awaitSync2 b hst]
  refine (receiverInv_outside_frame ?_).mpr ⟨hb, rfl⟩
  by_cases hs : b = s.params.sync2 <;> simp [hs]

theorem receiverInv_rxb_readingHeader {s : State} (b : Byte) (hst : s.rxstate = .readingHeader)
    (hp : standardLengths s.params) (hb : bufferSized s) : receiverInv (perform (fun p => rxByte p b) s) := by
  rw [perform_rxByte_readingHeader b hst]
  have hsize : (((s.rxbuf.set 0 s.params.sync1).set 1 s.params.sync2).set 2 b).length = s.params.rxbufCap := by
    simp only [List.length_set]
    exact hb
  have hlo : 3 ≤ (3 : BitVec 5).toNat := by decide
  have hhi : (3 : BitVec 5).toNat ≤ 16 := by decide
  exact (receiverInv_readingBody rfl).mpr ⟨hsize, hlo, .inr rfl, hhi, headerStored_after_header b hp hb⟩

/-- Storing a body byte moves CURSOR from one place of R26 (b) to the next, or, when it was the last body byte,
to the place of the checksum byte (R26 (c)): CURSOR is then WANTED - 1, or 4 for a WANTED so small that the test,
made after the increment, ends the body at its first byte (R135). -/
theorem receiverInv_rxb_readingBody {s : State} (b : Byte) (hst : s.rxstate = .readingBody)
    (hp : standardLengths s.params) (h : receiverInv s) : receiverInv (perform (fun p => rxByte p b) s) := by
  obtain ⟨hb, hlo, hplace, hhi, hhdr⟩ := (receiverInv_readingBody hst).mp h
  have hcap := eighteen_le_length_rxbuf hp hb
  have hnext : (s.cursor + 1).toNat = s.cursor.toNat + 1 :=
    BitVec.toNat_add_of_lt (show s.cursor.toNat + 1 < 2 ^ 5 by omega)
  have hset := headerStored_set b hlo (by omega) hhdr
  have hsize : (s.rxbuf.set s.cursor.toNat b).length = s.params.rxbufCap := (List.length_set ..).trans hb
  obtain ⟨_, hwanted, _⟩ := hhdr
  rw [perform_rxByte_readingBody b hst, hnext]
  by_cases hdone : s.wanted.toNat ≤ s.cursor.toNat + 1 + 1
  · have hlast : s.cursor.toNat + 1 = max (s.wanted.toNat - 1) 4 := by omega
    rw [if_pos hdone]
    exact (receiverInv_readingChecksum rfl).mpr ⟨hsize, hnext.trans hlast, hset⟩
  · have hmore : 3 ≤ s.cursor.toNat + 1 ∧ s.cursor.toNat + 1 + 1 < s.wanted.toNat ∧ s.cursor.toNat + 1 ≤ 16 := by
      omega
    rw [← hnext] at hmore
    obtain ⟨hlo, hshort, hhi⟩ := hmore
    rw [if_neg hdone]
    exact (receiverInv_readingBody rfl).mpr ⟨hsize, hlo, .inl hshort, hhi, hset⟩

/-- Whatever the checksum byte is, the frame ends and pc is at the start (R136). -/
theorem receiverInv_rxb_readingChecksum {s : State} (b : Byte) (hst : s.rxstate = .readingChecksum)
    (hb : bufferSized s) : receiverInv (perform (fun p => rxByte p b) s) := by
  have hsize : (s.rxbuf.set s.cursor.toNat b).length = s.params.rxbufCap := (List.length_set ..).trans hb
  by_cases hc : bufChk (s.rxbuf.set s.cursor.toNat b) = b
  · rw [perform_rxByte_readingChecksum_ok hst rfl hc]
    exact (receiverInv_outside_frame (.inl rfl)).mpr ⟨hsize, rfl⟩
  · rw [perform_rxByte_readingChecksum_bad hst rfl hc]
    exact (receiverInv_outside_frame (.inl rfl)).mpr ⟨hsize, rfl⟩

theorem receiverInv_rxb {s : State} (b : Byte) (hp : standardLengths s.params) (h : receiverInv s) :
    receiverInv (perform (fun p => rxByte p b) s) := by
  have hb := receiverInv_bufferSized h
  cases hst : s.rxstate with
  | awaitSync1 => exact receiverInv_rxb_awaitSync1 b hst hb
  | awaitSync2 => exact receiverInv_rxb_awaitSync2 b hst hb
  | readingHeader => exact receiverInv_rxb_readingHeader b hst hp hb
  | readingBody => exact receiverInv_rxb_readingBody b hst hp h
  | readingChecksum => exact receiverInv_rxb_readingChecksum b hst hb

/-! ### Every operation -/

/-- Only a byte, REOPEN and POR touch what R26 speaks of; every other operation leaves the receiver as it was. -/
theorem exec_keeps_receiverInv {i : Instr} {s t : State} (hp : standardLengths s.params) (h : receiverInv s)
    (hx : exec i s = .next t) : receiverInv t := by
  have hb := receiverInv_bufferSized h
  obtain ⟨_, new, e, _, rfl⟩ | ⟨_, cls, f, rfl⟩ | ⟨b, _, rfl⟩ | ⟨_, e, _, rfl⟩ | ⟨_, rfl⟩ | ⟨rfl, _⟩ :=
    exec_next_cases hx
  · exact h
  · exact h
  · exact receiverInv_rxb b hp h
  · exact h
  · exact (receiverInv_outside_frame (.inl rfl)).mpr ⟨hb, rfl⟩
  · exact receiverInv_por hx

/-! ## The statements -/

/-- Settles O18: POR establishes the invariant, and a step is idle, one operation, or the answer to a reserved
word. -/
theorem everyStepKeepsTheReceiverInvariant : Obligations.EveryStepKeepsTheReceiverInvariant := by
  refine ⟨fun s t => receiverInv_por, fun s t hp h hstep => ?_⟩
  obtain ⟨_, ⟨_, rfl⟩ | ⟨w, rest, i, _, _, hx⟩ | ⟨w, rest, _, _, rfl⟩⟩ := step_next_cases hstep
  · exact ⟨hp, h⟩
  · exact ⟨(exec_params hx).symm ▸ hp, exec_keeps_receiverInv (s := { s with pending := rest }) hp h hx⟩
  · exact ⟨hp, h⟩

/-- Settles O52, from what each kind of operation can do and the agent of each port. -/
theorem operationsSeeOnlyTheBlockAndAnswerAtTheirPorts :
    Obligations.OperationsSeeOnlyTheBlockAndAnswerAtTheirPorts := by
  intro i s t h
  refine ⟨exec_with_pending_events h, ?cmd, ?txd, ?rx, ?ctl, fun hport => nomatch agent_of_port hport⟩
  case cmd =>
    intro hport
    obtain ⟨_, e, he, rfl⟩ := command_next (Option.some.inj (agent_of_port hport)).symm h
    exact ⟨e, rfl, he⟩
  case txd =>
    intro hport
    obtain rfl := eq_drain_of_port_txd hport
    obtain ⟨e, he, hd⟩ := perform_popHead s
    cases h
    exact ⟨e, congrArg State.events hd, he⟩
  case rx =>
    intro hport
    obtain ⟨b, rfl⟩ := eq_rxb_of_port_rx hport
    cases h
    exact List.filter_eq_self.mpr fun e he => decide_eq_true (perform_rxByte_events_at_evt b s e he)
  case ctl =>
    intro hport
    obtain rfl | rfl := eq_por_or_reopen_of_port_ctl hport <;> cases h <;> rfl

/-- Settles O11. -/
theorem resetStateHasTheStatedValues : Obligations.ResetStateHasTheStatedValues := ⟨rfl, rfl, rfl, rfl⟩

/-- Settles O19: pc is at the start, and RXBUF has its registers. -/
theorem receiverInvariantHoldsAtReset : Obligations.ReceiverInvariantHoldsAtReset :=
  have hb : bufferSized State.reset := length_porRxbuf 0 defaultParams.rxbufCap
  ⟨⟨paramsOk_defaultParams, rfl, rfl⟩, (receiverInv_outside_frame (.inl rfl)).mpr ⟨hb, rfl⟩, hb, rfl⟩

/-- Settles O46: the queue is empty, and the default P sets no bound. -/
theorem queueInvariantHoldsAtReset : Obligations.QueueInvariantHoldsAtReset :=
  ⟨List.forall_mem_nil _, fun d hd => absurd (show none = some d from hd) (Option.some_ne_none d).symm⟩

end Sys2Proof.Machine
end

section
/-! What the receive agent and a query of the command agent share of the block: nothing but P (20_memory.md
R58); and the statements of 20_memory.md about the order of operations (R57, R58). -/

namespace Sys2Proof.Machine

/-! ## A byte and the outbound queue -/

/-- A byte does the same whatever stands in TXQ and whatever was reported before, and leaves TXQ as it is: the
receive agent has no part in the queue (R58). -/
theorem perform_rxByte_with_txq_events (b : Byte) (s : State) (q : List Frame) (es : List Event) :
    perform (fun p => rxByte p b) { s with txq := q, events := es } =
      { perform (fun p => rxByte p b) s with txq := q } := by
  generalize hs' : ({ s with txq := q, events := es } : State) = s'
  have hrxstate : s'.rxstate = s.rxstate := by rw [← hs']
  cases hst : s.rxstate with
  | awaitSync1 =>
    rw [perform_rxByte_awaitSync1 b (hrxstate.trans hst), perform_rxByte_awaitSync1 b hst, ← hs']
  | awaitSync2 =>
    rw [perform_rxByte_awaitSync2 b (hrxstate.trans hst), perform_rxByte_awaitSync2 b hst, ← hs']
  | readingHeader =>
    rw [perform_rxByte_readingHeader b (hrxstate.trans hst), perform_rxByte_readingHeader b hst, ← hs']
  | readingBody =>
    rw [perform_rxByte_readingBody b (hrxstate.trans hst), perform_rxByte_readingBody b hst, ← hs']
  | readingChecksum =>
    have hx : s.rxbuf.set s.cursor.toNat b = s'.rxbuf.set s'.cursor.toNat b := by rw [← hs']
    by_cases hc : bufChk (s.rxbuf.set s.cursor.toNat b) = b
    · rw [perform_rxByte_readingChecksum_ok (hrxstate.trans hst) hx hc,
        perform_rxByte_readingChecksum_ok hst rfl hc, ← hs']
    · rw [perform_rxByte_readingChecksum_bad (hrxstate.trans hst) hx hc,
        perform_rxByte_readingChecksum_bad hst rfl hc, ← hs']

theorem perform_rxByte_txq (b : Byte) (s : State) : (perform (fun p => rxByte p b) s).txq = s.txq :=
  congrArg (·.txq) (perform_rxByte_with_txq_events b s s.txq s.events)

/-! ## A query reads TXQ and P -/

theorem room_congr {r r' : OpState} (p : Params) (n : Nat) (h : r'.txq = r.txq) : room p n r' = room p n r := by
  simp only [room, h]

/-- A one-frame build appends the same frames and reports the same in every state of the same P and TXQ (R170,
R182). -/
theorem perform_buildOne_of_same_txq (frame : Params → Frame) (s : State) :
    ∃ (new : List Frame) (e : Event), ∀ s' : State, s'.params = s.params → s'.txq = s.txq →
      perform (fun p => buildOne p (frame p)) s' = { s' with txq := s'.txq ++ new, events := [e] } := by
  have hsame (s' : State) (hq : s'.txq = s.txq) :
      room s.params 1 (startOp s'.toBlock) = room s.params 1 (startOp s.toBlock) := room_congr s.params 1 hq
  cases hroom : room s.params 1 (startOp s.toBlock) with
  | true =>
    refine ⟨[sealFrame (frame s.params)], .cmdOk 1, fun s' hp hq => ?_⟩
    rw [perform_eq, hp, buildOne_ok ((hsame s' hq).trans hroom), ← hp]
    rfl
  | false =>
    refine ⟨[], .cmdErr .qFull, fun s' hp hq => ?_⟩
    rw [perform_eq, hp, buildOne_full ((hsame s' hq).trans hroom), ← hp, List.append_nil]
    rfl

/-- Each of the three queries is a one-frame build (R174 to R176). -/
theorem query_of_same_txq {q : Instr} (hq : q = .qbase ∨ q = .qver ∨ q = .qreset) (s : State) :
    ∃ (new : List Frame) (e : Event), ∀ s' : State, s'.params = s.params → s'.txq = s.txq →
      exec q s' = .next { s' with txq := s'.txq ++ new, events := [e] } := by
  have hbuild : ∃ frame : Params → Frame, ∀ s', exec q s' = .next (perform (fun p => buildOne p (frame p)) s') := by
    obtain rfl | rfl | rfl := hq
    · exact ⟨_, exec_qbase⟩
    · exact ⟨_, exec_qver⟩
    · exact ⟨_, exec_qreset⟩
  obtain ⟨frame, hexec⟩ := hbuild
  obtain ⟨new, e, hnew⟩ := perform_buildOne_of_same_txq frame s
  exact ⟨new, e, fun s' hp ht => (hexec s').trans (congrArg _ (hnew s' hp ht))⟩

/-! ## The statements -/

/-- Settles O53: the byte leaves P and TXQ, all the query reads, as they were, and the query leaves all but TXQ,
which the byte does not look at. -/
theorem queriesAndBytesCommute : Obligations.QueriesAndBytesCommute := by
  intro s b q hq
  obtain ⟨new, e, hquery⟩ := query_of_same_txq hq s
  have htxq := perform_rxByte_txq b s
  have hbyte := perform_rxByte_with_txq_events b s (s.txq ++ new) [e]
  refine ⟨_, _, _, _, exec_rxb b s, hquery _ rfl htxq, hquery s rfl rfl, exec_rxb b _, ?_, ?_, ?_⟩
  · rw [hbyte, htxq]
  · rw [hbyte]
  · rfl

/-- Settles O1, by the equation of the step for a word that decodes. -/
theorem stepRunsTheDecodedInstruction : Obligations.StepRunsTheDecodedInstruction :=
  fun _ _ _ _ => step_of_decode_ok

end Sys2Proof.Machine
end

section
/-! The fields of a frame: assemblies, the RPS data byte and the three views; and the statements of
30_encoding.md and 40_codec.md about them (R70 to R79, R115 to R118). -/

namespace Sys2Proof.Machine

/-! ## Assemblies (R52, R75 to R77) -/

theorem toNat_append_byte {n : Nat} (x : BitVec n) (b : Byte) : (x ++ b).toNat = x.toNat * 2 ^ 8 + b.toNat := by
  rw [BitVec.toNat_append, ← Nat.shiftLeft_add_eq_or_of_lt b.isLt, Nat.shiftLeft_eq]

/-- The four bytes written at offsets 8..11 are adjacent fields of the identifier, most significant first. -/
theorem nodeId_writeId (f : Frame) (id : NodeId) : nodeId (writeId f id) = id := by
  have h8 : (writeId f id)[8] = id.extractLsb' 24 8 := by simp [writeId]
  have h9 : (writeId f id)[9] = id.extractLsb' 16 8 := by simp [writeId]
  have h10 : (writeId f id)[10] = id.extractLsb' 8 8 := by simp [writeId]
  have h11 : (writeId f id)[11] = id.extractLsb' 0 8 := by simp [writeId]
  rw [nodeId, h8, h9, h10, h11]
  simp only [BitVec.extractLsb'_append_extractLsb'_eq_extractLsb']
  exact BitVec.extractLsb'_eq_self

/-! ## The RPS data byte (R79) -/

theorem rpsUnpack_rpsPack (rid : BitVec 2) (ud pr : BitVec 1) :
    rpsUnpack (rpsPack rid ud pr) = ⟨rid, ud, pr, 0, 0, 0⟩ := by
  revert rid ud pr
  decide

/-- The six fields are adjacent, so that appending them leaves no bit out. -/
theorem rpsUnpack_append (d : Byte) :
    (rpsUnpack d).rid ++ (rpsUnpack d).ud ++ (rpsUnpack d).pr ++ (rpsUnpack d).srid ++ (rpsUnpack d).sud ++
      (rpsUnpack d).sa = d := by
  simp only [rpsUnpack, BitVec.extractLsb'_append_extractLsb'_eq_extractLsb']
  exact BitVec.extractLsb'_eq_self

/-! ## The three views (R70 to R73, R115 to R118) -/

theorem frame_toList (f : Frame) :
    f.toList = [f[0], f[1], f[2], f[3], f[4], f[5], f[6], f[7], f[8], f[9], f[10], f[11], f[12], f[13]] := by
  refine List.ext_getElem (by simp) fun i hi _ => ?_
  have hi : i < 14 := by simpa using hi
  interval_cases i <;> simp

theorem readField_writeField (f : Frame) (x y : Field) (v : Byte) :
    readField (writeField f x v) y = if fieldOffset x = fieldOffset y then v else readField f y := by
  simp only [readField, writeField, Fin.ext_iff]
  exact Vector.getElem_set (fieldOffset x).isLt (fieldOffset y).isLt

@[simp] theorem seqOf_append (q : BitVec 3) (n : BitVec 5) : seqOf (q ++ n) = q := BitVec.extractLsb'_append_eq_left

@[simp] theorem lengthOf_append (q : BitVec 3) (n : BitVec 5) : lengthOf (q ++ n) = n :=
  BitVec.extractLsb'_append_eq_right

@[simp] theorem writeSeq_get_hdr (f : Frame) (v : BitVec 3) : (writeSeq f v)[2] = v ++ lengthOf f[2] := by
  simp [writeSeq]

@[simp] theorem writeLength_get_hdr (f : Frame) (v : BitVec 5) : (writeLength f v)[2] = seqOf f[2] ++ v := by
  simp [writeLength]

@[simp] theorem viewBase_seq (f : Frame) : (viewBase f).seq = seqOf f[2] := rfl
@[simp] theorem viewBase_length (f : Frame) : (viewBase f).length = lengthOf f[2] := rfl

/-! ## The statements -/

/-- Settles O58: each byte appended shifts what stands before it by 8 bits. -/
theorem assembliesAreBigEndian : Obligations.AssembliesAreBigEndian := by
  refine ⟨fun f => ⟨?node, ?base, ?counter⟩, nodeId_writeId⟩
  case node => simp only [nodeId, toNat_append_byte]; omega
  case base => simp only [baseVal, toNat_append_byte]; omega
  case counter => simp only [cnt24, toNat_append_byte]; omega

/-- Settles O59. -/
theorem rpsDataByteFields : Obligations.RpsDataByteFields := ⟨rpsUnpack_rpsPack, rpsUnpack_append⟩

/-- Settles O60: every field reads the byte of its offset, and a store changes the byte of one offset. -/
theorem viewsNameTheSameBytes : Obligations.ViewsNameTheSameBytes := by
  refine ⟨fun f => ?order, fun f => ⟨rfl, rfl, rfl⟩, fun f => ?sameByte, readField_writeField, fun f v => ?seq,
    fun f v => ?length⟩
  case order => exact ⟨(frame_toList f).symm, (frame_toList f).symm, (frame_toList f).symm⟩
  case sameByte =>
    simp only [List.forall_mem_cons]
    exact ⟨rfl, rfl, rfl, rfl, rfl, rfl, rfl, rfl, rfl, rfl, List.forall_mem_nil _⟩
  case seq => simp
  case length => simp

end Sys2Proof.Machine
end

section
/-! Event words by their fields, the answer to a reserved word, and the statements of 30_encoding.md about them
(R91 to R93). -/

namespace Sys2Proof

open Machine

/-! ## SWITCH (R92, R93) -/

theorem decodeCmd_cmdCode (cmd : Cmd) : decodeCmd (cmdCode cmd) = some cmd := by
  cases cmd <;> rfl

theorem decide_extractLsb'_one {n : Nat} (x : BitVec n) (i : Nat) :
    decide (x.extractLsb' i 1 = 1) = x.getLsbD i := by
  have hbit : x.extractLsb' i 1 = BitVec.ofBool (x.getLsbD i) := by
    ext j hj
    obtain rfl : j = 0 := by omega
    simp
  rw [hbit]
  cases x.getLsbD i <;> rfl

theorem decodeEvent_switch (payload : BitVec 64) {cmd : Cmd} (hc : payload.extractLsb' 62 2 = cmdCode cmd) :
    decodeEvent (0xB#4 ++ payload) =
      .ok (.switch (payload.extractLsb' 0 32) (payload.extractLsb' 48 8) cmd (payload.extractLsb' 40 8)
        (payload.getLsbD 61) (payload.extractLsb' 32 8)) := by
  have hfield (a n : Nat) (h : a + n ≤ 64) := event_field 0xB#4 payload a n h
  have hswitch : decodeEvent (0xB#4 ++ payload) = decodeSwitch (0xB#4 ++ payload) := by
    rw [decodeEvent, event_op]
    rfl
  simp only [hswitch, decodeSwitch, hfield 62 2 (by decide), hc, decodeCmd_cmdCode, hfield 0 32 (by decide),
    hfield 48 8 (by decide), hfield 40 8 (by decide), hfield 61 1 (by decide), hfield 32 8 (by decide),
    decide_extractLsb'_one]

theorem decodeEvent_reservedCmd (payload : BitVec 64) (hc : payload.extractLsb' 62 2 = 3) :
    decodeEvent (0xB#4 ++ payload) = .error .reservedEvent := by
  have hcmd := (event_field 0xB#4 payload 62 2 (by decide)).trans hc
  rw [decodeEvent, event_op]
  simp only [decodeSwitch, hcmd]
  rfl

/-! ## Reserved values of OP (R93) -/

theorem decodeEvent_reservedOp {op : BitVec 4} (h : (4 ≤ op.toNat ∧ op.toNat ≤ 7) ∨ 13 ≤ op.toNat)
    (payload : BitVec 64) : decodeEvent (op ++ payload) = .error .reservedEvent := by
  unfold decodeEvent
  rw [event_op]
  split
  case h_10 => rfl
  all_goals omega

theorem step_of_decode_reserved {s : State} {w : FetchWord} {rest : List FetchWord}
    (hp : paramsOk s.params = true) (hq : s.pending = w :: rest)
    (hd : decode s.params w = .error .reservedEvent) :
    step s = .next { s with pending := rest, events := [.cmdErr .badReq] } := by
  simp only [step, fetch, hp, hq, hd, if_true]
  rfl

/-! ## The statements -/

/-- Settles O4: OP selects the operation, and each operand is a field of the payload. -/
theorem eventWordsDecodeByTheirFields : Obligations.EventWordsDecodeByTheirFields := by
  intro payload
  refine ⟨?por, ?reopen, ?rxb, ?drain, ?qbase, ?qver, ?qreset, fun cmd => decodeEvent_switch payload, ?teach,
    decodeEvent_reservedCmd payload, fun op h => decodeEvent_reservedOp h payload⟩
  case rxb => rw [decodeEvent, event_op, event_field _ _ 0 8 (by decide)]; rfl
  case teach => rw [decodeEvent, event_op, event_field _ _ 0 32 (by decide)]; rfl
  all_goals rw [decodeEvent, event_op]; rfl

/-- Settles O3: each reserved word decodes to no operation, and the step answers it with E_BADREQ. -/
theorem reservedEventWordsAnswerBadRequest : Obligations.ReservedEventWordsAnswerBadRequest := by
  intro s op payload rest hp hq hres
  have hd : decodeEvent (op ++ payload) = .error .reservedEvent := by
    obtain hlow | hhigh | ⟨rfl, hcmd⟩ := hres
    · exact decodeEvent_reservedOp (.inl hlow) payload
    · exact decodeEvent_reservedOp (.inr hhigh) payload
    · exact decodeEvent_reservedCmd payload hcmd
  exact step_of_decode_reserved hp hq hd

end Sys2Proof
end

section
/-! ACK_TABLE as an injective map from names to codes, the class of a frame by the tests of 42_dispatch.md R150, and
the statement about it (30_encoding.md R84, R86). -/

namespace Sys2Proof.Machine

open Sys2Proof.Safety

/-! ## ACK_TABLE (R84) -/

/-- The names of ACK_TABLE in the order in which their codes are tried. -/
def ackNames : List AckName :=
  [.idBaseOk, .notWantedAck, .notAck, .duplicateId, .errHeaderSeq, .errLength, .errChecksum, .errType,
   .errTxIdrange, .errIdrange]

theorem mem_ackNames (n : AckName) : n ∈ ackNames := by cases n <;> decide

theorem ackCodes_eq_map (t : AckTable) : ackCodes t = ackNames.map (ackCodeOf t) := rfl

theorem find?_cons_decide {α : Type} (P : α → Prop) [DecidablePred P] (a : α) (l : List α) :
    (a :: l).find? (fun x => decide (P x)) = if P a then some a else l.find? fun x => decide (P x) := by
  by_cases h : P a <;> simp [h]

theorem ackLookup_eq_find? (t : AckTable) (c : Byte) :
    ackLookup t c = ackNames.find? fun n => decide (c = ackCodeOf t n) := by
  simp only [ackNames, find?_cons_decide]
  rfl

theorem ackLookup_eq_none {t : AckTable} {c : Byte} : ackLookup t c = none ↔ ∀ n, c ≠ ackCodeOf t n := by
  simp [ackLookup_eq_find?, mem_ackNames]

theorem ackCodeOf_of_ackLookup {t : AckTable} {c : Byte} {n : AckName} (h : ackLookup t c = some n) :
    c = ackCodeOf t n := by
  rw [ackLookup_eq_find?] at h
  have hn := List.find?_some h
  exact of_decide_eq_true hn

theorem ackCodeOf_injective {t : AckTable} (h : (ackCodes t).Nodup) : Function.Injective (ackCodeOf t) :=
  fun m n => List.inj_on_of_nodup_map (ackCodes_eq_map t ▸ h) (mem_ackNames m) (mem_ackNames n)

/-- The lookup stops at some name of the given code, and that the codes differ leaves only one. -/
theorem ackLookup_ackCodeOf {t : AckTable} (h : (ackCodes t).Nodup) (n : AckName) :
    ackLookup t (ackCodeOf t n) = some n := by
  cases hl : ackLookup t (ackCodeOf t n) with
  | some m => rw [ackCodeOf_injective h (ackCodeOf_of_ackLookup hl)]
  | none => exact absurd rfl (ackLookup_eq_none.mp hl n)

/-! ## The acknowledgement shape (R151 to R153) -/

theorem classify_of_ackLookup_some {p : Params} {f : Frame} {n : AckName} (hh : hdrOf f = p.hdrAck)
    (hl : ackLookup p.ackTable (orgOf f) = some n) : classify p f = .ack (.known n) := by
  simp only [classify, if_pos hh, hl]

theorem classify_of_ackLookup_none {p : Params} {f : Frame} (hh : hdrOf f = p.hdrAck)
    (hl : ackLookup p.ackTable (orgOf f) = none) :
    classify p f = if p.ackSwallowUnknown then .ack .unknownCode else classifyType p f := by
  simp only [classify, if_pos hh, hl]

theorem classify_of_hdr_ne {p : Params} {f : Frame} (hh : hdrOf f ≠ p.hdrAck) : classify p f = classifyType p f :=
  if_neg hh

/-! ## The telegram type (R150, R83) -/

theorem codesOk_of_paramsOk {p : Params} (hp : paramsOk p = true) :
    [p.orgInfIdbase, p.orgRps, p.org4bs].Nodup ∧ (ackCodes p.ackTable).Nodup := by
  simp only [paramsOk, codesOk, Bool.and_eq_true, decide_eq_true_eq] at hp
  obtain ⟨_, hcodes⟩ := hp
  exact hcodes

theorem classifyType_baseId {p : Params} {f : Frame} (ho : orgOf f = p.orgInfIdbase) :
    classifyType p f = .baseId := if_pos ho

theorem classifyType_rps {p : Params} {f : Frame} (ho : orgOf f = p.orgRps) (hinf : p.orgRps ≠ p.orgInfIdbase) :
    classifyType p f = .rps := by
  rw [classifyType, ho, if_neg hinf, if_pos rfl]

theorem classifyType_fourBs {p : Params} {f : Frame} (ho : orgOf f = p.org4bs) (hinf : p.org4bs ≠ p.orgInfIdbase)
    (hrps : p.org4bs ≠ p.orgRps) : classifyType p f = .fourBs := by
  rw [classifyType, ho, if_neg hinf, if_neg hrps, if_pos rfl]

theorem classifyType_other {p : Params} {f : Frame} (hinf : orgOf f ≠ p.orgInfIdbase) (hrps : orgOf f ≠ p.orgRps)
    (h4bs : orgOf f ≠ p.org4bs) : classifyType p f = .other := by
  rw [classifyType, if_neg hinf, if_neg hrps, if_neg h4bs]

/-! ## The statement -/

/-- Settles O27, by the tests of R150 in their order; R83 and R84 make the order matter nowhere else. -/
theorem classOfAFrame : Obligations.ClassOfAFrame := by
  intro p f hp
  obtain ⟨htypes, hcodes⟩ := codesOk_of_paramsOk hp
  simp only [List.nodup_cons, List.mem_cons, List.not_mem_nil, or_false, not_or] at htypes
  obtain ⟨⟨hinfRps, hinf4bs⟩, hrps4bs, _⟩ := htypes
  refine ⟨fun hh n ho => ?known, fun hh ho hs => ?unknown, fun h => ?byType⟩
  case known => exact classify_of_ackLookup_some hh (ho ▸ ackLookup_ackCodeOf hcodes n)
  case unknown => rw [classify_of_ackLookup_none hh (ackLookup_eq_none.mpr ho), if_pos hs]
  case byType =>
    have hc : classify p f = classifyType p f := by
      by_cases hh : hdrOf f = p.hdrAck
      · obtain hne | ⟨ho, hs⟩ := h
        · exact absurd hh hne
        · rw [classify_of_ackLookup_none hh (ackLookup_eq_none.mpr ho), hs, if_neg Bool.false_ne_true]
      · exact classify_of_hdr_ne hh
    rw [hc]
    exact ⟨classifyType_baseId, fun ho => classifyType_rps ho (Ne.symm hinfRps),
      fun ho => classifyType_fourBs ho (Ne.symm hinf4bs) (Ne.symm hrps4bs), classifyType_other⟩

end Sys2Proof.Machine
end

section
/-! The rows of the opcode table as tests of a frame's bytes and of an event word's OP, and the statements of
30_encoding.md about the decoder and the table (R85, R86, R96; notes/assumptions/12.md). -/

namespace Sys2Proof

open Machine Safety

/-! ## A frame word is its fourteen bytes (R9) -/

theorem wordOfFrame_frameOfWord (w : BitVec 112) : wordOfFrame (frameOfWord w) = w := by
  simp only [wordOfFrame, frameOfWord_get, Nat.reduceSub, Nat.reduceMul,
    BitVec.extractLsb'_append_extractLsb'_eq_extractLsb']
  exact BitVec.extractLsb'_eq_self

theorem frameOfWord_eq_iff (w : BitVec 112) (f : Frame) : frameOfWord w = f ↔ w = wordOfFrame f := by
  constructor
  · rintro rfl
    exact (wordOfFrame_frameOfWord w).symm
  · rintro rfl
    exact frameOfWord_wordOfFrame f

theorem forall_byte_iff (f : Frame) (P : Byte → Nat → Prop) :
    (∀ i (hi : i < 14), P f[i] i) ↔
      P f[0] 0 ∧ P f[1] 1 ∧ P f[2] 2 ∧ P f[3] 3 ∧ P f[4] 4 ∧ P f[5] 5 ∧ P f[6] 6 ∧ P f[7] 7 ∧ P f[8] 8 ∧ P f[9] 9 ∧
        P f[10] 10 ∧ P f[11] 11 ∧ P f[12] 12 ∧ P f[13] 13 := by
  constructor
  · exact fun h => ⟨h 0 _, h 1 _, h 2 _, h 3 _, h 4 _, h 5 _, h 6 _, h 7 _, h 8 _, h 9 _, h 10 _, h 11 _, h 12 _,
      h 13 _⟩
  · rintro ⟨_, _, _, _, _, _, _, _, _, _, _, _, _, _⟩ i hi
    interval_cases i <;> assumption

/-! ## A row's test, byte by byte (R96) -/

/-- The part of a row's test that looks at the byte `x` of offset `i`. -/
def byteTest (mask pat : BitVec 112) (x : Byte) (i : Nat) : Prop :=
  x &&& mask.extractLsb' (8 * (13 - i)) 8 = pat.extractLsb' (8 * (13 - i)) 8

theorem and_eq_iff_forall_byteTest (w mask pat : BitVec 112) :
    w &&& mask = pat ↔ ∀ i (hi : i < 14), byteTest mask pat (frameOfWord w)[i] i := by
  constructor
  · rintro rfl i hi
    rw [byteTest, frameOfWord_get w i hi, BitVec.extractLsb'_and]
  · intro h
    rw [← wordOfFrame_frameOfWord pat, ← frameOfWord_eq_iff]
    refine frame_ext fun i hi => ?_
    rw [frameOfWord_get _ i hi, BitVec.extractLsb'_and, ← frameOfWord_get w i hi, frameOfWord_get pat i hi]
    exact h i hi

theorem and_eq_iff_byteTest {w : BitVec 112} {f : Frame} (hf : frameOfWord w = f) (mask pat : BitVec 112) :
    w &&& mask = pat ↔
      byteTest mask pat f[0] 0 ∧ byteTest mask pat f[1] 1 ∧ byteTest mask pat f[2] 2 ∧ byteTest mask pat f[3] 3 ∧
      byteTest mask pat f[4] 4 ∧ byteTest mask pat f[5] 5 ∧ byteTest mask pat f[6] 6 ∧ byteTest mask pat f[7] 7 ∧
      byteTest mask pat f[8] 8 ∧ byteTest mask pat f[9] 9 ∧ byteTest mask pat f[10] 10 ∧
      byteTest mask pat f[11] 11 ∧ byteTest mask pat f[12] 12 ∧ byteTest mask pat f[13] 13 :=
  hf ▸ (and_eq_iff_forall_byteTest w mask pat).trans (forall_byte_iff _ (byteTest mask pat))

/-- A mask byte 0xFF keeps the byte, in the spelling in which `simp` meets it. -/
theorem byte_and_255 (x : Byte) : x &&& 255#8 = x := BitVec.and_allOnes

theorem rowOf_cons {n : Nat} (r : TableRow n) (rows : List (TableRow n)) (w : BitVec n) :
    rowOf (r :: rows) w = if w &&& r.mask = r.pat then some r.mnemonic else rowOf rows w := by
  by_cases h : w &&& r.mask = r.pat <;> simp [rowOf, h]

theorem rowOf_nil {n : Nat} (w : BitVec n) : rowOf [] w = none := rfl

section
variable {w : BitVec 112} {f : Frame}

/-! ## Received rows (R86) -/

theorem rowOf_receivedRows_ack {n : AckName} (hf : frameOfWord w = f) (hh : hdrOf f = defaultParams.hdrAck)
    (hl : ackLookup defaultParams.ackTable (orgOf f) = some n) :
    rowOf receivedRows w = some (mnemonicOf (decodeReceived defaultParams f)) := by
  have hhdr : f[2] = 0x8B := hh
  have horg : f[3] = ackCodeOf defaultAckTable n := ackCodeOf_of_ackLookup hl
  simp only [receivedRows, rowOf_cons, decodeReceived, classify_of_ackLookup_some hh hl]
  cases n <;>
    simp [and_eq_iff_byteTest hf, byteTest, byte_and_255, hhdr, horg, ackCodeOf, defaultAckTable, mnemonicOf]

theorem rowOf_receivedRows_ackUnknown (hf : frameOfWord w = f) (hh : hdrOf f = defaultParams.hdrAck)
    (hl : ackLookup defaultParams.ackTable (orgOf f) = none) :
    rowOf receivedRows w = some (mnemonicOf (decodeReceived defaultParams f)) := by
  have hhdr : f[2] = 0x8B := hh
  have horg (n : AckName) (_ : n ∈ ackNames) : f[3] ≠ ackCodeOf defaultAckTable n := ackLookup_eq_none.mp hl n
  have hc : classify defaultParams f = .ack .unknownCode := classify_of_ackLookup_none hh hl
  simp [ackNames, ackCodeOf, defaultAckTable] at horg
  simp [receivedRows, rowOf_cons, and_eq_iff_byteTest hf, byteTest, byte_and_255, hhdr, horg, decodeReceived, hc,
    mnemonicOf]

/-- Without the header of an acknowledgement only the rows of the telegram types are left. -/
theorem rowOf_receivedRows_of_hdr_ne (hf : frameOfWord w = f) (hh : hdrOf f ≠ defaultParams.hdrAck) :
    rowOf receivedRows w =
      if f[3] = 152#8 then some "RX_BASEID" else if f[3] = 5#8 then some "RX_RPS"
      else if f[3] = 7#8 then some "RX_4BS" else some "RX_OTHER" := by
  have hhdr : ¬ f[2] = 139#8 := hh
  simp [receivedRows, rowOf_cons, and_eq_iff_byteTest hf, byteTest, byte_and_255, hhdr]

theorem rowOf_receivedRows_type (hf : frameOfWord w = f) (hh : hdrOf f ≠ defaultParams.hdrAck) :
    rowOf receivedRows w = some (mnemonicOf (decodeReceived defaultParams f)) := by
  simp only [rowOf_receivedRows_of_hdr_ne hf hh, decodeReceived, classify_of_hdr_ne hh]
  by_cases hbase : f[3] = 152#8
  · simp only [if_pos hbase, classifyType_baseId (p := defaultParams) hbase, mnemonicOf]
  by_cases hrps : f[3] = 5#8
  · simp only [if_neg hbase, if_pos hrps, classifyType_rps (p := defaultParams) hrps (by decide), mnemonicOf]
  by_cases h4bs : f[3] = 7#8
  · simp only [if_neg hbase, if_neg hrps, if_pos h4bs,
      classifyType_fourBs (p := defaultParams) h4bs (by decide) (by decide), mnemonicOf]
  · simp only [if_neg hbase, if_neg hrps, if_neg h4bs, classifyType_other (p := defaultParams) hbase hrps h4bs,
      mnemonicOf]

/-! ## Built rows (R85) -/

theorem hasRadioHead_iff (p : Params) (t : Byte) (f : Frame) :
    hasRadioHead p t f = true ↔ f[0] = p.sync1 ∧ f[1] = p.sync2 ∧ f[2] = p.hdrRadioTx ∧ f[3] = t := by
  simp only [hasRadioHead, Bool.and_eq_true, decide_eq_true_eq, and_assoc]

theorem restZero_iff (f : Frame) : restZero f = true ↔ f[5] = 0 ∧ f[6] = 0 ∧ f[7] = 0 := by
  simp only [restZero, Bool.and_eq_true, decide_eq_true_eq, and_assoc]

/-- A row whose mask keeps every bit is the row of one frame. -/
theorem fullMaskRow_iff (hf : frameOfWord w = f) {pat : BitVec 112} {g : Frame} (hg : wordOfFrame g = pat) :
    w &&& 0xFFFFFFFFFFFFFFFFFFFFFFFFFFFF = pat ↔ f = g := by
  rw [← hf, frameOfWord_eq_iff, hg]
  exact iff_of_eq (congrArg (· = pat) BitVec.and_allOnes)

theorem rdIdbaseRow_iff (hf : frameOfWord w = f) :
    w &&& 0xFFFFFFFFFFFFFFFFFFFFFFFFFFFF = 0xA55A8B58000000000000000000E3 ↔
      f = queryFrame defaultParams defaultParams.orgRdIdbase :=
  fullMaskRow_iff hf (by decide)

theorem rdSwVerRow_iff (hf : frameOfWord w = f) :
    w &&& 0xFFFFFFFFFFFFFFFFFFFFFFFFFFFF = 0xA55A8B4B000000000000000000D6 ↔
      f = queryFrame defaultParams defaultParams.orgRdSwVer :=
  fullMaskRow_iff hf (by decide)

theorem resetRow_iff (hf : frameOfWord w = f) :
    w &&& 0xFFFFFFFFFFFFFFFFFFFFFFFFFFFF = 0xA55A8B0A00000000000000000095 ↔
      f = queryFrame defaultParams defaultParams.orgReset :=
  fullMaskRow_iff hf (by decide)

theorem pressRow_iff (hf : frameOfWord w = f) :
    w &&& 0xFFFFFFFF1FFFFFFF00000000FF00 = 0xA55A8B0510000000000000003000 ↔
      hasRadioHead defaultParams defaultParams.orgRps f = true ∧ restZero f = true ∧ f[4] &&& 0x1F = 0x10 ∧
        f[12] = defaultParams.statusPress := by
  rw [and_left_comm (a := restZero f = true)]
  simp [and_eq_iff_byteTest hf, byteTest, byte_and_255, hasRadioHead_iff, restZero_iff, defaultParams, and_assoc]

theorem releaseRow_iff (hf : frameOfWord w = f) :
    w &&& 0xFFFFFFFF3FFFFFFF00000000FF00 = 0xA55A8B0500000000000000002000 ↔
      hasRadioHead defaultParams defaultParams.orgRps f = true ∧ restZero f = true ∧ f[4] &&& 0x3F = 0 ∧
        f[12] = defaultParams.statusRelease := by
  rw [and_left_comm (a := restZero f = true)]
  simp [and_eq_iff_byteTest hf, byteTest, byte_and_255, hasRadioHead_iff, restZero_iff, defaultParams, and_assoc]

/-- The mask byte 0xFE leaves open which of DIM_ON and DIM_OFF stands at offset 7. -/
theorem dimFlag_test (x : Byte) : x &&& 254#8 = 8#8 ↔ x = 9#8 ∨ x = 8#8 := by
  revert x
  decide

theorem dimRow_iff (hf : frameOfWord w = f) :
    w &&& 0xFFFFFFFFFF00FFFE00000000FF00 = 0xA55A8B0702000108000000000000 ↔
      hasRadioHead defaultParams defaultParams.org4bs f = true ∧ f[4] = defaultParams.dimMarker ∧
        f[6] = defaultParams.dimRamp ∧ (f[7] = defaultParams.dimOn ∨ f[7] = defaultParams.dimOff) ∧
        f[12] = defaultParams.status4bs := by
  simp [and_eq_iff_byteTest hf, byteTest, byte_and_255, hasRadioHead_iff, defaultParams, dimFlag_test, and_assoc]

theorem teachRow_iff (hf : frameOfWord w = f) :
    w &&& 0xFFFFFFFFFFFFFFFF00000000FF00 = 0xA55A8B0702000000000000000000 ↔
      hasRadioHead defaultParams defaultParams.org4bs f = true ∧ f[4] = defaultParams.dimMarker ∧
        restZero f = true ∧ f[12] = defaultParams.status4bs := by
  simp [and_eq_iff_byteTest hf, byteTest, byte_and_255, hasRadioHead_iff, restZero_iff, defaultParams, and_assoc]

/-- The decoder makes the tests of the seven rows, in the order of the table. -/
theorem rowOf_builtRows (hf : frameOfWord w = f) :
    rowOf builtRows w = (decodeBuilt defaultParams f).toOption.map mnemonicOf := by
  simp only [builtRows, rowOf_cons, rowOf_nil, rdIdbaseRow_iff hf, rdSwVerRow_iff hf, resetRow_iff hf,
    pressRow_iff hf, releaseRow_iff hf, dimRow_iff hf, teachRow_iff hf, decodeBuilt, Bool.and_eq_true,
    Bool.or_eq_true, decide_eq_true_eq, and_assoc]
  split_ifs <;> rfl

end

/-! ## Event rows (R91) -/

/-- A row of format EVW68 is selected by OP alone. -/
theorem rowOf_eventRows_append (op : BitVec 4) (payload : BitVec 64) :
    rowOf eventRows (op ++ payload) = rowOf eventRows (op ++ 0#64) := by
  have hmask : ∀ r ∈ eventRows, r.mask = 0xF#4 ++ 0#64 := by decide
  refine congrArg (Option.map TableRow.mnemonic) (List.find?_congr fun r hr => ?_)
  rw [hmask r hr, BitVec.and_append, BitVec.and_append, BitVec.and_zero, BitVec.and_zero]

theorem rowOf_eventRows_of_op {w : BitVec 68} {op : BitVec 4} (h : (w.extractLsb' 64 4).toNat = op.toNat) :
    rowOf eventRows w = rowOf eventRows (op ++ 0#64) := by
  have hw : w.extractLsb' 64 4 ++ w.extractLsb' 0 64 = w :=
    BitVec.extractLsb'_append_extractLsb' (w := 4) (len := 64)
  rw [← hw, BitVec.eq_of_toNat_eq h]
  exact rowOf_eventRows_append op _

theorem mnemonicOf_of_decodeSwitch {w : BitVec 68} {i : Instr} (h : decodeSwitch w = .ok i) :
    mnemonicOf i = "SWITCH" := by
  unfold decodeSwitch at h
  split at h <;> cases h
  rfl

theorem rowOf_eventRows {w : BitVec 68} {i : Instr} (h : decodeEvent w = .ok i) :
    rowOf eventRows w = some (mnemonicOf i) := by
  unfold decodeEvent at h
  split at h
  case h_1 hop => cases h; exact rowOf_eventRows_of_op (op := 0x0) hop
  case h_2 hop => cases h; exact rowOf_eventRows_of_op (op := 0x1) hop
  case h_3 hop => cases h; exact rowOf_eventRows_of_op (op := 0x2) hop
  case h_4 hop => cases h; exact rowOf_eventRows_of_op (op := 0x3) hop
  case h_5 hop => cases h; exact rowOf_eventRows_of_op (op := 0x8) hop
  case h_6 hop => cases h; exact rowOf_eventRows_of_op (op := 0x9) hop
  case h_7 hop => cases h; exact rowOf_eventRows_of_op (op := 0xA) hop
  case h_8 hop => rw [mnemonicOf_of_decodeSwitch h]; exact rowOf_eventRows_of_op (op := 0xB) hop
  case h_9 hop => cases h; exact rowOf_eventRows_of_op (op := 0xC) hop
  case h_10 => cases h

/-! ## The statements -/

/-- Settles O6: CLASSIFY and the table both try the ten codes under the header HDR_ACK, then any code under it, then
the telegram type. -/
theorem receivedWordsFollowTheTable : Obligations.ReceivedWordsFollowTheTable := by
  intro w
  by_cases hh : hdrOf (frameOfWord w) = defaultParams.hdrAck
  · cases hl : ackLookup defaultParams.ackTable (orgOf (frameOfWord w)) with
    | some n => exact rowOf_receivedRows_ack rfl hh hl
    | none => exact rowOf_receivedRows_ackUnknown rfl hh hl
  · exact rowOf_receivedRows_type rfl hh

/-- Settles O7: the decoder of built frames makes the rows' own tests, and OP alone selects an event row. -/
theorem builtAndEventWordsFollowTheTable : Obligations.BuiltAndEventWordsFollowTheTable := by
  refine ⟨fun w i h => ?accepted, fun w h => ?refused, fun w i => rowOf_eventRows⟩
  case accepted => rw [rowOf_builtRows rfl, h]; rfl
  case refused => rw [rowOf_builtRows rfl, h]; rfl

end Sys2Proof
end

section
/-! The built rows of the opcode table performed when nothing turns them away, the level of a dim request, and the
statements of 30_encoding.md about them (R79, R82, R85, R89; notes/assumptions/10.md). -/

namespace Sys2Proof.Machine

open Sys2Proof.Safety

/-! ## The level (R89) -/

theorem clampLevel_toNat (p : Params) (v : Byte) : (clampLevel p v).toNat = min p.levelMax.toNat v.toNat := by
  unfold clampLevel
  split <;> omega

/-- LEVEL_MAX is a byte, so the clamped level is one too. -/
theorem scaleLevel_toNat (p : Params) (level : Byte) :
    (scaleLevel p level).toNat = min p.levelMax.toNat (level.toNat * 100 / 15) := by
  have hmax := p.levelMax.isLt
  rw [scaleLevel, BitVec.toNat_ofNat, Nat.mod_eq_of_lt (by omega)]

/-! ## A build operation that passes its tests (R170, R173, R182) -/

theorem perform_buildOne_ok {s : State} {t : Params → Frame} {f : Frame} (hroom : hasRoom 1 s)
    (hf : sealFrame (t s.params) = f) :
    perform (fun p => buildOne p (t p)) s = { s with txq := s.txq ++ [f], events := [.cmdOk 1] } := by
  rw [perform_eq, buildOne_ok ((room_hasRoom 1 s).mpr hroom), hf]
  rfl

theorem perform_buildForNode_ok {s : State} {id : NodeId} {t : Params → Frame} {f : Frame} (hid : idInWindow s id)
    (hroom : hasRoom 1 s) (hf : sealFrame (t s.params) = f) :
    perform (fun p => buildForNode p id (t p)) s = { s with txq := s.txq ++ [f], events := [.cmdOk 1] } := by
  have hpass : buildForNode s.params id (t s.params) (startOp s.toBlock) =
      buildOne s.params (t s.params) (startOp s.toBlock) := if_pos ((inRange_idInWindow s id).mpr hid)
  rw [← perform_buildOne_ok hroom hf, perform_eq, hpass]
  rfl

/-! ## The statements -/

/-- Settles O39. -/
theorem scaleGivesTheLevelOfEachRequest : Obligations.ScaleGivesTheLevelOfEachRequest :=
  fun p level last =>
    ⟨fun _ => ⟨scaleLevel p level, rfl, scaleLevel_toNat p level⟩,
      ⟨clampLevel p last, rfl, clampLevel_toNat p last⟩, rfl⟩

/-- Settles O33: each row builds one frame, and sealing BUILD_BASE again changes nothing. -/
theorem queryRowsEnqueueTheirFrame : Obligations.QueryRowsEnqueueTheirFrame := by
  intro s hroom
  have hquery (org : Params → Byte) := perform_buildOne_ok (t := fun p => buildBase p (org p)) hroom
    (queryFrame_zeroPayload s.params (org s.params))
  rw [exec_fRdIdbase, exec_fRdSwVer, exec_fReset, hquery, hquery, hquery]
  exact ⟨rfl, rfl, rfl⟩

/-- Settles O34: each row builds one frame for the node, whose bytes are those of its kind. -/
theorem nodeRowsEnqueueTheirFrame : Obligations.NodeRowsEnqueueTheirFrame := by
  intro s id hid hroom
  have hnode (t : Params → Frame) {f : Frame} (hf : sealFrame (t s.params) = f) :=
    congrArg (Host.Outcome.next (φ := Fault) (ρ := Refusal)) (perform_buildForNode_ok hid hroom hf)
  refine ⟨fun rid ud => ?press, fun rid => ?release, fun pct => ?dim, ?teach⟩
  case press =>
    exact (exec_fRpsPress rid ud id s).trans (hnode (pressT · rid ud id) (rpsPressFrame_sealed s.params rid ud id))
  case release =>
    exact (exec_fRpsRelease rid id s).trans (hnode (releaseT · rid id) (rpsReleaseFrame_sealed s.params rid id))
  case dim =>
    refine ⟨clampLevel s.params pct, (clampLevel_toNat _ _).trans (Nat.min_comm _ _), ?_⟩
    exact (exec_f4bsDim pct id s).trans
      (hnode (fun p => dimT p (clampLevel p pct) id) (dimFrame_sealed s.params (clampLevel s.params pct) id))
  case teach => exact (exec_f4bsTeach id s).trans (hnode (teachT · id) (teachFrame_sealed s.params id))

end Sys2Proof.Machine
end

section
/-! The checksum as a sum over the bytes it covers, VALID, the two views as names of the same fourteen bytes, and the
statements of 40_codec.md about them (R110, R112, R114, R119). -/

namespace Sys2Proof.Machine

/-! ## CHK as a sum (R110) -/

/-- The bytes CHK adds up: offsets 2..12 (R110). -/
def checksumBytes (l : List Byte) : List Byte := (l.drop 2).take 11

theorem checksumBytes_vector {n : Nat} (a : Vector Byte n) (h : 13 ≤ n) :
    checksumBytes a.toList = [a[2], a[3], a[4], a[5], a[6], a[7], a[8], a[9], a[10], a[11], a[12]] := by
  refine List.ext_getElem (by simp [checksumBytes]; omega) fun i _ hi => ?_
  have hi : i < 11 := hi
  interval_cases i <;> simp [checksumBytes]

theorem chk_eq_sum {n : Nat} (a : Vector Byte n) (h : 13 ≤ n) : chk a h = (checksumBytes a.toList).sum := by
  rw [checksumBytes_vector a h]
  simp [chk, BitVec.add_assoc]

/-- Bytes are added modulo 256 (R8). -/
theorem toNat_sum_bytes (l : List Byte) : l.sum.toNat = (l.map BitVec.toNat).sum % 256 := by
  induction l with
  | nil => rfl
  | cons b l ih => rw [List.sum_cons, List.map_cons, List.sum_cons, BitVec.toNat_add, ih, Nat.add_mod_mod]

/-- The frame of R138 has the bytes of the buffer at the offsets CHK adds up. -/
theorem checksumBytes_frameOf {x : RxBuf} (h : 13 ≤ x.length) :
    checksumBytes (frameOf x).toList = checksumBytes x := by
  refine List.ext_getElem (by simp [checksumBytes, frameLen]; omega) fun i _ hi => ?_
  have hi : i < 11 := by simp only [checksumBytes, List.length_take] at hi; omega
  simp [checksumBytes, reg_eq x (2 + i) (by omega)]

/-! ## CHK after one byte is written -/

/-- CHK changes by the difference of the byte written and the byte it replaces. -/
theorem chk_set (t : Frame) {k : Nat} (hk : k < 14) (hlo : 2 ≤ k) (hhi : k ≤ 12) (v : Byte) :
    chk (t.set k v hk) = chk t + (-t[k] + v) := by
  have hset : checksumBytes (t.set k v hk).toList = (checksumBytes t.toList).set (k - 2) v := by
    simp only [checksumBytes, Vector.toList_set, List.drop_set, if_neg (Nat.not_lt.mpr hlo), List.take_set]
  have hlen : k - 2 < (checksumBytes t.toList).length := by simp [checksumBytes, frameLen]; omega
  have hget : (checksumBytes t.toList)[k - 2] = t[k] := by simp [checksumBytes, Nat.add_sub_cancel' hlo]
  rw [chk_eq_sum, chk_eq_sum, hset, List.sum_set', dif_pos hlen, hget]

/-- A byte outside offsets 2..12 is not part of CHK (R110). -/
theorem chk_set_outside (t : Frame) {k : Nat} (hk : k < 14) (hout : k < 2 ∨ 12 < k) (v : Byte) :
    chk (t.set k v hk) = chk t :=
  chk_congr fun i hi _ _ => Vector.getElem_set_ne hk hi (by omega)

/-! ## VALID and SEAL (R113, R114) -/

theorem valid_iff (f : Frame) : valid f = true ↔ f[13] = chk f := decide_eq_true_iff

theorem valid_eq_false_iff (f : Frame) : valid f = false ↔ f[13] ≠ chk f := decide_eq_false_iff_not

theorem valid_sealFrame (t : Frame) : valid (sealFrame t) = true := by simp [valid_iff]

theorem valid_buildBase (p : Params) (t : Byte) : valid (buildBase p t) = true := valid_sealFrame _

theorem sealFrame_sealFrame (t : Frame) : sealFrame (sealFrame t) = sealFrame t :=
  sealFrame_congr (sealFrame_get t)

/-- A new byte at offsets 2..12 moves CHK away from the checksum byte, which stays. -/
theorem valid_set_covered {t : Frame} (ht : valid t = true) {k : Nat} (hk : k < 14) (hlo : 2 ≤ k) (hhi : k ≤ 12)
    {v : Byte} (hv : v ≠ t[k]) : valid (t.set k v hk) = false := by
  have hchecksum : (t.set k v hk)[13] = chk t :=
    (Vector.getElem_set_ne hk (by decide) (by omega)).trans ((valid_iff t).mp ht)
  rw [valid_eq_false_iff, hchecksum, chk_set t hk hlo hhi v]
  intro hsame
  exact hv (neg_add_eq_zero.mp (left_eq_add.mp hsame)).symm

/-- A new checksum byte differs from CHK, which stays. -/
theorem valid_set_checksum {t : Frame} (ht : valid t = true) {v : Byte} (hv : v ≠ t[13]) :
    valid (t.set 13 v) = false := by
  rw [valid_eq_false_iff, chk_set_outside t (by decide) (.inr (by decide)) v, ← (valid_iff t).mp ht,
    Vector.getElem_set_self]
  exact hv

/-- The sync bytes are neither the checksum byte nor part of CHK. -/
theorem valid_set_sync (t : Frame) {k : Nat} (hk : k < 14) (hsync : k < 2) (v : Byte) :
    valid (t.set k v hk) = valid t := by
  rw [valid, valid, chk_set_outside t hk (.inl hsync) v, Vector.getElem_set_ne hk (by decide) (by omega)]

/-! ## The views EXT and MACK determine the frame (R119 (g)) -/

theorem high_byte_append_low_byte (x : BitVec 16) : x.extractLsb' 8 8 ++ x.extractLsb' 0 8 = x := by
  simp only [BitVec.extractLsb'_append_extractLsb'_eq_extractLsb']
  exact BitVec.extractLsb'_eq_self

theorem frameOfExt_viewExt (f : Frame) : frameOfExt (viewExt f) = f := by
  apply Vector.toList_inj.mp
  simp only [frameOfExt, viewExt, BitVec.extractLsb'_append_eq_left, BitVec.extractLsb'_append_eq_right]
  exact (frame_toList f).symm

theorem viewExt_frameOfExt (v : ExtView) : viewExt (frameOfExt v) = v :=
  congrArg (fun x => { v with xaddr := x }) (high_byte_append_low_byte v.xaddr)

theorem frameOfMack_viewMack (f : Frame) : frameOfMack (viewMack f) = f := by
  apply Vector.toList_inj.mp
  simp only [frameOfMack, viewMack, BitVec.extractLsb'_append_eq_left, BitVec.extractLsb'_append_eq_right]
  exact (frame_toList f).symm

theorem viewMack_frameOfMack (v : MackView) : viewMack (frameOfMack v) = v :=
  congrArg (fun x => { v with maddr := x }) (high_byte_append_low_byte v.maddr)

/-! ## The statements -/

/-- Settles O57. -/
theorem codecProperties : Obligations.CodecProperties := by
  refine ⟨valid_buildBase, valid_sealFrame, sealFrame_sealFrame, ?covered, fun t v => valid_set_checksum (t := t) (v := v),
    ?sync, frameOfExt_viewExt, viewExt_frameOfExt, frameOfMack_viewMack, viewMack_frameOfMack⟩
  case covered => exact fun t k hk v ht hlo hhi hv => valid_set_covered ht hk hlo hhi hv
  case sync =>
    exact fun t v w => (valid_set_sync (t.set 0 v) (by decide) (by decide) w).trans
      (valid_set_sync t (by decide) (by decide) v)

/-- Settles O55: CHK is a sum of bytes, and bytes are added modulo 256. -/
theorem checksumIsTheSumOfElevenBytes : Obligations.ChecksumIsTheSumOfElevenBytes := by
  refine ⟨fun n a h => ?array, fun x h => ?buffer⟩
  case array => exact (congrArg BitVec.toNat (chk_eq_sum a h)).trans (toNat_sum_bytes _)
  case buffer =>
    rw [bufChk, chk_eq_sum, checksumBytes_frameOf h]
    exact toNat_sum_bytes _

/-- Settles O56: BUILD_BASE is the sealed frame with a zero payload, whose checksum has two terms. -/
theorem buildBaseResult : Obligations.BuildBaseResult :=
  fun p t => ⟨buildBase_zeroPayload p t, valid_buildBase p t⟩

end Sys2Proof.Machine
end

section
/-! The bounds invariant of 41_receive.md R137 under every step, RXB state by state as a step of exec, a whole frame fed
byte by byte, and the statements of 41_receive.md (R132 to R142, R251; 42_dispatch.md R154). -/

namespace Sys2Proof.Machine

open Sys2Proof.Safety

/-! ## Delivery inside RXB (R136, R154) -/

/-- A class row of the table is the delivery of its frame as one of its class (notes/assumptions/11.md). -/
theorem exec_decodeReceived (p : Params) (f : Frame) (s : State) :
    exec (decodeReceived p f) s = .next (perform (fun _ => deliverAs (classify p f) f) s) := by
  simp only [decodeReceived]
  cases classify p f with
  | ack n =>
    cases n with
    | known n => cases n <;> rfl
    | unknownCode => rfl
  | _ => rfl

theorem perform_deliverAs (cls : FrameClass) (f : Frame) (s : State) :
    perform (fun _ => deliverAs cls f) s =
      { s with baseId := capturedBase cls f s.baseId, events := [.frameOk f cls, followUp cls f] } := by
  rw [perform_eq, deliverAs_eq]
  rfl

/-- What the end of a frame returns: the delivery, or CHKERR (R136). -/
def endEvents (p : Params) (c : Byte) (x : RxBuf) : List Event :=
  if bufChk x = c then
    [.frameOk (frameOf x) (classify p (frameOf x)), followUp (classify p (frameOf x)) (frameOf x)]
  else [.chkErr]

/-- BASE_ID after the end of a frame (R136, R155). -/
def endBaseId (p : Params) (c : Byte) (x : RxBuf) (old : NodeId) : NodeId :=
  if bufChk x = c then capturedBase (classify p (frameOf x)) (frameOf x) old else old

/-- The state after a frame with checksum byte `c`, of which RXBUF holds `x` (R136). -/
def endOfFrame (c : Byte) (x : RxBuf) (s : State) : State :=
  { s with
    rxbuf := x
    rxstate := .awaitSync1
    cursor := 0
    baseId := endBaseId s.params c x s.baseId
    events := endEvents s.params c x }

theorem endEvents_ok {p : Params} {c : Byte} {x : RxBuf} (h : bufChk x = c) :
    endEvents p c x =
      [.frameOk (frameOf x) (classify p (frameOf x)), followUp (classify p (frameOf x)) (frameOf x)] := if_pos h

theorem endEvents_bad {p : Params} {c : Byte} {x : RxBuf} (h : bufChk x ≠ c) : endEvents p c x = [.chkErr] := if_neg h

theorem endBaseId_ok {p : Params} {c : Byte} {x : RxBuf} {old : NodeId} (h : bufChk x = c) :
    endBaseId p c x old = capturedBase (classify p (frameOf x)) (frameOf x) old := if_pos h

theorem endBaseId_bad {p : Params} {c : Byte} {x : RxBuf} {old : NodeId} (h : bufChk x ≠ c) :
    endBaseId p c x old = old := if_neg h

@[simp] theorem endOfFrame_baseId (c : Byte) (x : RxBuf) (s : State) :
    (endOfFrame c x s).baseId = endBaseId s.params c x s.baseId := by
  rw [endOfFrame]

@[simp] theorem endOfFrame_events (c : Byte) (x : RxBuf) (s : State) :
    (endOfFrame c x s).events = endEvents s.params c x := by
  rw [endOfFrame]

theorem atStart_endOfFrame {c : Byte} {x : RxBuf} {s : State} (h : x.length = s.params.rxbufCap) :
    atStart (endOfFrame c x s) :=
  ⟨rfl, rfl, h⟩

theorem perform_rxByte_readingChecksum {s : State} (b : Byte) (hst : s.rxstate = .readingChecksum) :
    perform (fun p => rxByte p b) s = endOfFrame b (s.rxbuf.set s.cursor.toNat b) s := by
  by_cases hc : bufChk (s.rxbuf.set s.cursor.toNat b) = b
  · rw [perform_rxByte_readingChecksum_ok hst rfl hc, endOfFrame, endEvents_ok hc, endBaseId_ok hc]
  · rw [perform_rxByte_readingChecksum_bad hst rfl hc, endOfFrame, endEvents_bad hc, endBaseId_bad hc]

/-! ## What keeps every store inside RXBUF (R137) -/

/-- Outside a frame the bounds invariant asks of CURSOR and of the size of RXBUF only. -/
theorem boundsInv_outside_frame {s : State}
    (hst : s.rxstate = .awaitSync1 ∨ s.rxstate = .awaitSync2 ∨ s.rxstate = .readingHeader) :
    boundsInv s ↔ bufferSized s ∧ s.cursor = 0 := by
  obtain h | h | h := hst <;> simp [boundsInv, h]

theorem boundsInv_readingBody {s : State} (hst : s.rxstate = .readingBody) :
    boundsInv s ↔ bufferSized s ∧ 3 ≤ s.cursor.toNat ∧
      (s.cursor.toNat + 1 < s.wanted.toNat ∨ s.cursor.toNat = 3) ∧ s.wanted.toNat ≤ s.params.rxbufCap := by
  simp [boundsInv, hst]

theorem boundsInv_readingChecksum {s : State} (hst : s.rxstate = .readingChecksum) :
    boundsInv s ↔ bufferSized s ∧ s.cursor.toNat = max (s.wanted.toNat - 1) 4 ∧
      s.wanted.toNat ≤ s.params.rxbufCap := by
  simp [boundsInv, hst]

theorem boundsInv_bufferSized {s : State} (h : boundsInv s) : bufferSized s := h.1

/-- R36: POR leaves RXBUF with its registers and pc at the start. -/
theorem boundsInv_por {s t : State} (h : exec .por s = .next t) : boundsInv t := by
  cases h
  exact (boundsInv_outside_frame (.inl rfl)).mpr ⟨length_porRxbuf s.fresh s.params.rxbufCap, rfl⟩

/-! ### Lengths (R7, R78) -/

theorem frameLen_le_rxbufCap {p : Params} (hp : paramsOk p = true) : 14 ≤ p.rxbufCap := by
  simp only [paramsOk, lengthsOk, Bool.and_eq_true, decide_eq_true_eq] at hp
  obtain ⟨⟨⟨⟨⟨⟨_, _⟩, hcap⟩, _⟩, _⟩, _⟩, _⟩ := hp
  exact hcap

theorem lenFixed_add_lenBias {p : Params} (hp : paramsOk p = true) : p.lenFixed.toNat + p.lenBias = 14 := by
  simp only [paramsOk, lengthsOk, Bool.and_eq_true, decide_eq_true_eq] at hp
  obtain ⟨⟨⟨⟨⟨⟨hlen, _⟩, _⟩, _⟩, _⟩, _⟩, _⟩ := hp
  exact hlen

/-- WANTED has 5 bits (R27; notes/assumptions/28.md). -/
theorem wantedLen_toNat_mod (p : Params) (h : Byte) :
    (wantedLen p h).toNat = ((h &&& p.lenMask).toNat + p.lenBias) % 32 :=
  BitVec.toNat_ofNat _ _

/-- The buffer holds the longest frame a header byte can ask for (R7). -/
theorem wantedLen_le_rxbufCap {p : Params} (hp : paramsOk p = true) (h : Byte) :
    (wantedLen p h).toNat ≤ p.rxbufCap := by
  have hmask : (h &&& p.lenMask).toNat ≤ p.lenMask.toNat := by
    rw [BitVec.toNat_and]; exact Nat.and_le_right
  calc (wantedLen p h).toNat
      = ((h &&& p.lenMask).toNat + p.lenBias) % 32 := wantedLen_toNat_mod p h
    _ ≤ (h &&& p.lenMask).toNat + p.lenBias := Nat.mod_le _ _
    _ ≤ p.lenMask.toNat + p.lenBias := Nat.add_le_add_right hmask _
    _ ≤ p.rxbufCap := lenMask_add_lenBias_le_rxbufCap hp

/-- CURSOR has 5 bits (R24). -/
theorem cursor_add_one_toNat {cursor : BitVec 5} (h : cursor.toNat < 31) : (cursor + 1).toNat = cursor.toNat + 1 :=
  BitVec.toNat_add_of_lt (Nat.succ_lt_succ h)

/-- The register at CURSOR exists and CURSOR does not wrap (R137, R24). -/
theorem cursor_lt_of_boundsInv {s : State} (hp : paramsOk s.params = true) (h : boundsInv s)
    (hst : s.rxstate = .readingBody ∨ s.rxstate = .readingChecksum) :
    s.cursor.toNat < s.rxbuf.length ∧ s.cursor.toNat < 31 := by
  have hcap := frameLen_le_rxbufCap hp
  have hsize : s.rxbuf.length = s.params.rxbufCap := boundsInv_bufferSized h
  have hwanted := s.wanted.isLt
  obtain hst | hst := hst
  · obtain ⟨_, _, hplace, hfit⟩ := (boundsInv_readingBody hst).mp h
    omega
  · obtain ⟨_, hplace, hfit⟩ := (boundsInv_readingChecksum hst).mp h
    omega

/-! ### A byte, state by state -/

theorem boundsInv_rxb_awaitSync1 {s : State} (b : Byte) (hst : s.rxstate = .awaitSync1) (hb : bufferSized s) :
    boundsInv (perform (fun p => rxByte p b) s) := by
  rw [perform_rxByte_awaitSync1 b hst]
  refine (boundsInv_outside_frame ?_).mpr ⟨hb, rfl⟩
  by_cases hs : b = s.params.sync1 <;> simp [hs]

theorem boundsInv_rxb_awaitSync2 {s : State} (b : Byte) (hst : s.rxstate = .awaitSync2) (hb : bufferSized s) :
    boundsInv (perform (fun p => rxByte p b) s) := by
  rw [perform_rxByte_awaitSync2 b hst]
  refine (boundsInv_outside_frame ?_).mpr ⟨hb, rfl⟩
  by_cases hs : b = s.params.sync2 <;> simp [hs]

theorem boundsInv_rxb_readingHeader {s : State} (b : Byte) (hst : s.rxstate = .readingHeader)
    (hp : paramsOk s.params = true) (hb : bufferSized s) : boundsInv (perform (fun p => rxByte p b) s) := by
  rw [perform_rxByte_readingHeader b hst]
  have hsize : (((s.rxbuf.set 0 s.params.sync1).set 1 s.params.sync2).set 2 b).length = s.params.rxbufCap := by
    simp only [List.length_set]
    exact hb
  have hlo : 3 ≤ (3 : BitVec 5).toNat := by decide
  exact (boundsInv_readingBody rfl).mpr ⟨hsize, hlo, .inr rfl, wantedLen_le_rxbufCap hp b⟩

/-- CURSOR moves to the next place short of WANTED, or to the place of the checksum byte (R135). -/
theorem boundsInv_rxb_readingBody {s : State} (b : Byte) (hst : s.rxstate = .readingBody)
    (hp : paramsOk s.params = true) (h : boundsInv s) : boundsInv (perform (fun p => rxByte p b) s) := by
  obtain ⟨_, hwrap⟩ := cursor_lt_of_boundsInv hp h (.inl hst)
  obtain ⟨hb, hlo, hplace, hfit⟩ := (boundsInv_readingBody hst).mp h
  have hnext : (s.cursor + 1).toNat = s.cursor.toNat + 1 := cursor_add_one_toNat hwrap
  have hsize : (s.rxbuf.set s.cursor.toNat b).length = s.params.rxbufCap := (List.length_set ..).trans hb
  rw [perform_rxByte_readingBody b hst, hnext]
  by_cases hdone : s.wanted.toNat ≤ s.cursor.toNat + 1 + 1
  · have hlast : (s.cursor + 1).toNat = max (s.wanted.toNat - 1) 4 := by omega
    rw [if_pos hdone]
    exact (boundsInv_readingChecksum rfl).mpr ⟨hsize, hlast, hfit⟩
  · have hlo : 3 ≤ (s.cursor + 1).toNat := by omega
    have hshort : (s.cursor + 1).toNat + 1 < s.wanted.toNat := by omega
    rw [if_neg hdone]
    exact (boundsInv_readingBody rfl).mpr ⟨hsize, hlo, .inl hshort, hfit⟩

theorem boundsInv_rxb_readingChecksum {s : State} (b : Byte) (hst : s.rxstate = .readingChecksum)
    (hb : bufferSized s) : boundsInv (perform (fun p => rxByte p b) s) := by
  rw [perform_rxByte_readingChecksum b hst]
  exact (boundsInv_outside_frame (.inl rfl)).mpr ⟨(List.length_set ..).trans hb, rfl⟩

theorem boundsInv_rxb {s : State} (b : Byte) (hp : paramsOk s.params = true) (h : boundsInv s) :
    boundsInv (perform (fun p => rxByte p b) s) := by
  have hb := boundsInv_bufferSized h
  cases hst : s.rxstate with
  | awaitSync1 => exact boundsInv_rxb_awaitSync1 b hst hb
  | awaitSync2 => exact boundsInv_rxb_awaitSync2 b hst hb
  | readingHeader => exact boundsInv_rxb_readingHeader b hst hp hb
  | readingBody => exact boundsInv_rxb_readingBody b hst hp h
  | readingChecksum => exact boundsInv_rxb_readingChecksum b hst hb

/-- Only a byte, REOPEN and POR touch what R137 rests on. -/
theorem exec_keeps_boundsInv {i : Instr} {s t : State} (hp : paramsOk s.params = true) (h : boundsInv s)
    (hx : exec i s = .next t) : boundsInv t := by
  have hb := boundsInv_bufferSized h
  obtain ⟨_, new, e, _, rfl⟩ | ⟨_, cls, f, rfl⟩ | ⟨b, _, rfl⟩ | ⟨_, e, _, rfl⟩ | ⟨_, rfl⟩ | ⟨rfl, _⟩ :=
    exec_next_cases hx
  · exact h
  · exact h
  · exact boundsInv_rxb b hp h
  · exact h
  · exact (boundsInv_outside_frame (.inl rfl)).mpr ⟨hb, rfl⟩
  · exact boundsInv_por hx

/-! ## Bytes fed one after another (R94, R95) -/

theorem traceRx_append (a b : List Byte) : traceRx (a ++ b) = traceRx a ++ traceRx b := List.map_append

theorem traceRun_rxb {b : Byte} {bs : List Byte} {s t u : State} {es : List Event}
    (hb : perform (fun p => rxByte p b) s = t) (h : traceRun (traceRx bs) t = .next (u, es)) :
    traceRun (traceRx (b :: bs)) s = .next (u, t.events ++ es) :=
  traceRun_cons (hb ▸ exec_rxb b s) h

theorem traceRun_rxb_singleton {b : Byte} {s t : State} (hb : perform (fun p => rxByte p b) s = t) :
    traceRun (traceRx [b]) s = .next (t, t.events) := by
  rw [traceRun_rxb (bs := []) hb rfl, List.append_nil]

theorem traceRun_params {l : List Instr} {s t : State} {es : List Event} (h : traceRun l s = .next (t, es)) :
    t.params = s.params := by
  induction l generalizing s es with
  | nil => cases h; rfl
  | cons i l ih =>
    obtain ⟨s₁, hx⟩ := exec_next i s
    simp only [traceRun, hx] at h
    cases hr : traceRun l s₁ with
    | next r =>
      simp only [hr] at h
      cases h
      exact (ih hr).trans (exec_params hx)
    | fault r => simp [hr] at h
    | refused r => simp [hr] at h

/-- A trace without an event before another one. -/
theorem traceRun_append_silent {a b : List Instr} {s t u : State} {es : List Event}
    (h : traceRun a s = .next (t, [])) (h2 : traceRun b t = .next (u, es)) :
    traceRun (a ++ b) s = .next (u, es) :=
  traceRun_append h h2

/-! ## A whole frame (R138 to R140) -/

/-- RXBUF after the bytes `got` of a frame have been stored from x[0] on, the bytes of before behind them (R140). -/
def bufferAfter (got : List Byte) (s : State) : RxBuf := got ++ s.rxbuf.drop got.length

theorem bufferAfter_set {got : List Byte} {s : State} (b : Byte) (h : got.length < s.rxbuf.length) :
    (bufferAfter got s).set got.length b = bufferAfter (got ++ [b]) s := by
  rw [bufferAfter, bufferAfter, List.drop_eq_getElem_cons h, List.set_append_right _ _ (Nat.le_refl _), Nat.sub_self,
    List.set_cons_zero, List.length_append, List.append_assoc]
  rfl

theorem length_bufferAfter {got : List Byte} {s : State} (h : got.length ≤ s.rxbuf.length) :
    (bufferAfter got s).length = s.rxbuf.length := by
  rw [bufferAfter, List.length_append, List.length_drop]
  omega

theorem bufferAfter_header {s : State} (h : Byte) (hlen : 3 ≤ s.rxbuf.length) :
    ((s.rxbuf.set 0 s.params.sync1).set 1 s.params.sync2).set 2 h =
      bufferAfter [s.params.sync1, s.params.sync2, h] s := by
  simp only [bufferAfter]
  match s.rxbuf, hlen with
  | _ :: _ :: _ :: _, _ => rfl

/-- The state in which the bytes `got` of a frame, its header included, have been received from `s` (R134, R135). -/
def midFrame (st : RxState) (got : List Byte) (s : State) : State :=
  { s with rxbuf := bufferAfter got s, rxstate := st, cursor := BitVec.ofNat 5 got.length, events := [] }

@[simp] theorem midFrame_rxstate (st : RxState) (got : List Byte) (s : State) : (midFrame st got s).rxstate = st := rfl
@[simp] theorem midFrame_rxbuf (st : RxState) (got : List Byte) (s : State) :
    (midFrame st got s).rxbuf = bufferAfter got s := rfl

theorem midFrame_cursor_toNat (st : RxState) {got : List Byte} (s : State) (h : got.length < 32) :
    (midFrame st got s).cursor.toNat = got.length :=
  (BitVec.toNat_ofNat _ _).trans (Nat.mod_eq_of_lt h)

theorem midFrame_cursor_add_one (st : RxState) (got : List Byte) (b : Byte) (s : State) :
    (midFrame st got s).cursor + 1 = BitVec.ofNat 5 (got ++ [b]).length := by
  rw [List.length_append, BitVec.ofNat_add]
  rfl

/-- SYNC1, SYNC2 and the header byte lead to (ReadingBody, 3) (R132 to R134). -/
theorem traceRun_header {s : State} (h : Byte) (hs : atStart s) (hlen : 3 ≤ s.rxbuf.length) :
    traceRun (traceRx [s.params.sync1, s.params.sync2, h]) s =
      .next (midFrame .readingBody [s.params.sync1, s.params.sync2, h] { s with wanted := wantedLen s.params h },
        []) := by
  obtain ⟨hst, _, _⟩ := hs
  have hsync1 := perform_rxByte_awaitSync1 s.params.sync1 hst
  rw [if_pos rfl] at hsync1
  have hsync2 := perform_rxByte_awaitSync2
    (s := { s with rxstate := .awaitSync2, cursor := 0, events := [] }) s.params.sync2 rfl
  rw [if_pos rfl] at hsync2
  have hheader := perform_rxByte_readingHeader
    (s := { s with rxstate := .readingHeader, cursor := 0, events := [] }) h rfl
  rw [bufferAfter_header h hlen] at hheader
  exact traceRun_rxb hsync1 (traceRun_rxb hsync2 (traceRun_rxb_singleton hheader))

/-- A body byte is stored behind those received before it; the body is at its end when two bytes more than these
make up WANTED (R135). -/
theorem perform_rxByte_midFrame_body {s : State} {got : List Byte} (b : Byte) (hwrap : got.length < 31)
    (hlen : got.length < s.rxbuf.length) :
    perform (fun p => rxByte p b) (midFrame .readingBody got s) =
      midFrame (if s.wanted.toNat ≤ got.length + 1 + 1 then .readingChecksum else .readingBody) (got ++ [b]) s := by
  have hnext : (BitVec.ofNat 5 (got ++ [b]).length).toNat = got.length + 1 := by
    rw [BitVec.toNat_ofNat, List.length_append, List.length_singleton, Nat.mod_eq_of_lt (by omega)]
  rw [perform_rxByte_readingBody b (midFrame_rxstate ..), midFrame_cursor_toNat _ s (by omega), midFrame_rxbuf,
    bufferAfter_set b hlen, midFrame_cursor_add_one _ got b, hnext]
  rfl

/-- The bytes up to the place of the checksum byte, which is WANTED - 1 or, after the one byte every body has, 4
(R135, R139). -/
theorem traceRun_body {s : State} {got body : List Byte} (hlo : 3 ≤ got.length) (hne : body ≠ [])
    (hplace : got.length + body.length = max (s.wanted.toNat - 1) 4)
    (hroom : got.length + body.length ≤ s.rxbuf.length) :
    traceRun (traceRx body) (midFrame .readingBody got s) =
      .next (midFrame .readingChecksum (got ++ body) s, []) := by
  induction body generalizing got with
  | nil => exact absurd rfl hne
  | cons b body ih =>
    rw [List.length_cons] at hplace hroom
    have hwanted := s.wanted.isLt
    have hb := perform_rxByte_midFrame_body (s := s) (got := got) b (by omega) (by omega)
    cases body with
    | nil =>
      rw [List.length_nil] at hplace
      rw [if_pos (by omega)] at hb
      exact traceRun_rxb_singleton hb
    | cons b' body =>
      have hgot : (got ++ [b]).length = got.length + 1 := List.length_append
      rw [List.length_cons] at hplace
      rw [if_neg (by omega)] at hb
      rw [List.append_cons]
      exact traceRun_rxb hb (ih (by omega) (List.cons_ne_nil b' body) (by rw [List.length_cons]; omega) (by omega))

theorem perform_rxByte_midFrame_checksum {s : State} {got : List Byte} (c : Byte) (hwrap : got.length < 32)
    (hlen : got.length < s.rxbuf.length) :
    perform (fun p => rxByte p c) (midFrame .readingChecksum got s) = endOfFrame c (bufferAfter (got ++ [c]) s) s := by
  rw [perform_rxByte_readingChecksum c (midFrame_rxstate ..), midFrame_cursor_toNat _ s hwrap, midFrame_rxbuf,
    bufferAfter_set c hlen]
  rfl

/-- The rest of a frame behind its header is stored, and the frame ends as R136 says (R135, R136). -/
theorem traceRun_body_checksum {s : State} {got body : List Byte} (c : Byte) (hlo : 3 ≤ got.length) (hne : body ≠ [])
    (hplace : got.length + body.length = max (s.wanted.toNat - 1) 4)
    (hroom : got.length + body.length < s.rxbuf.length) :
    traceRun (traceRx (body ++ [c])) (midFrame .readingBody got s) =
      .next (endOfFrame c (bufferAfter (got ++ body ++ [c]) s) s,
        endEvents s.params c (bufferAfter (got ++ body ++ [c]) s)) := by
  have hwanted := s.wanted.isLt
  have hgot : (got ++ body).length = got.length + body.length := List.length_append
  rw [traceRx_append]
  have hend := traceRun_rxb_singleton
    (perform_rxByte_midFrame_checksum (s := s) (got := got ++ body) c (by omega) (by omega))
  rw [endOfFrame_events] at hend
  exact traceRun_append_silent (traceRun_body hlo hne hplace hroom.le) hend

/-- A frame fed from (AwaitSync1, 0) is stored from x[0] on and ends as R136 says, whatever its length (R138 to
R140). -/
theorem traceRun_frame {s : State} {h : Byte} {body : List Byte} (c : Byte) (hp : paramsOk s.params = true)
    (hs : atStart s) (hbody : body.length = max 1 ((wantedLen s.params h).toNat - 4)) {bytes : List Byte}
    (hbytes : [s.params.sync1, s.params.sync2, h] ++ body ++ [c] = bytes) :
    traceRun (traceRx bytes) s =
      .next (endOfFrame c (bufferAfter bytes s) { s with wanted := wantedLen s.params h },
        endEvents s.params c (bufferAfter bytes s)) := by
  have ⟨_, _, hsize⟩ := hs
  have hcap : 14 ≤ s.rxbuf.length := hsize ▸ frameLen_le_rxbufCap hp
  have hfit : (wantedLen s.params h).toNat ≤ s.rxbuf.length := hsize ▸ wantedLen_le_rxbufCap hp h
  have hplace : 3 + body.length = max ((wantedLen s.params h).toNat - 1) 4 := by omega
  have hroom : 3 + body.length < s.rxbuf.length := by omega
  have hheader := traceRun_header h hs (by omega)
  have hrest := traceRun_body_checksum (s := { s with wanted := wantedLen s.params h })
    (got := [s.params.sync1, s.params.sync2, h]) c (Nat.le_refl 3) (List.ne_nil_of_length_pos (by omega)) hplace hroom
  rw [hbytes] at hrest
  rw [← hbytes, List.append_assoc, traceRx_append, ← List.append_assoc, hbytes]
  exact traceRun_append_silent hheader hrest

/-! ## A frame of fourteen bytes (R138) -/

/-- A header byte with the length field LEN_FIXED asks for fourteen bytes (R7). -/
theorem wantedLen_lenFixed {p : Params} {h : Byte} (hp : paramsOk p = true) (hh : h &&& p.lenMask = p.lenFixed) :
    wantedLen p h = 14 := by
  rw [wantedLen, hh, lenFixed_add_lenBias hp]
  rfl

theorem frameOf_bufferAfter_wireBytes (f : Frame) (s : State) : frameOf (bufferAfter (wireBytes f) s) = f := by
  refine frame_ext fun i hi => ?_
  have hi : i < f.toList.length := by simpa using hi
  rw [frameOf_get _ i, reg, bufferAfter, wireBytes, List.getD_eq_getElem?_getD, List.getElem?_append_left hi,
    List.getElem?_eq_getElem hi, Option.getD_some, Vector.getElem_toList]

theorem length_bufferAfter_wireBytes {s : State} (f : Frame) (hp : paramsOk s.params = true) (hb : bufferSized s) :
    (bufferAfter (wireBytes f) s).length = s.params.rxbufCap := by
  have hsize : s.rxbuf.length = s.params.rxbufCap := hb
  have hwire : (wireBytes f).length = 14 := Vector.length_toList
  rw [length_bufferAfter (by rw [hwire, hsize]; exact frameLen_le_rxbufCap hp), hsize]

/-- Fourteen bytes with the synchronisation bytes and the length field of such a frame are stored whole and end at
their last byte (R138). -/
theorem traceRun_traceRxFrame {s : State} {f : Frame} (hp : paramsOk s.params = true) (hs : atStart s)
    (h0 : f[0] = s.params.sync1) (h1 : f[1] = s.params.sync2) (h2 : f[2] &&& s.params.lenMask = s.params.lenFixed) :
    traceRun (traceRxFrame f) s =
      .next (endOfFrame f[13] (bufferAfter (wireBytes f) s) { s with wanted := 14 },
        endEvents s.params f[13] (bufferAfter (wireBytes f) s)) := by
  have hwanted := wantedLen_lenFixed hp h2
  have hbytes : [s.params.sync1, s.params.sync2, f[2]] ++ [f[3], f[4], f[5], f[6], f[7], f[8], f[9], f[10], f[11],
      f[12]] ++ [f[13]] = wireBytes f := by
    rw [wireBytes, frame_toList, h0, h1]
    rfl
  have hrun := traceRun_frame f[13] hp hs (by rw [hwanted]; rfl) hbytes
  rw [hwanted] at hrun
  exact hrun

/-- A valid frame is delivered (R136). -/
theorem endOfFrame_of_valid {f : Frame} (s : State) (hf : valid f = true) :
    endEvents s.params f[13] (bufferAfter (wireBytes f) s) =
        [.frameOk f (classify s.params f), followUp (classify s.params f) f] ∧
      endBaseId s.params f[13] (bufferAfter (wireBytes f) s) s.baseId =
        capturedBase (classify s.params f) f s.baseId := by
  have hframe := frameOf_bufferAfter_wireBytes f s
  have hc : bufChk (bufferAfter (wireBytes f) s) = f[13] := by rw [bufChk, hframe, (valid_iff f).mp hf]
  rw [endEvents_ok hc, endBaseId_ok hc, hframe]
  exact ⟨rfl, rfl⟩

/-- An invalid frame is a checksum error (R136). -/
theorem endOfFrame_of_not_valid {f : Frame} (s : State) (hf : valid f = false) :
    endEvents s.params f[13] (bufferAfter (wireBytes f) s) = [.chkErr] ∧
      endBaseId s.params f[13] (bufferAfter (wireBytes f) s) s.baseId = s.baseId := by
  have hc : bufChk (bufferAfter (wireBytes f) s) ≠ f[13] := by
    rw [bufChk, frameOf_bufferAfter_wireBytes]
    exact ((valid_eq_false_iff f).mp hf).symm
  exact ⟨endEvents_bad hc, endBaseId_bad hc⟩

/-- One byte changed behind the synchronisation bytes leaves the frame invalid (R119). -/
theorem valid_set_of_two_le {f : Frame} (hf : valid f = true) {k : Nat} (hk : k < 14) (hlo : 2 ≤ k) {v : Byte}
    (hv : v ≠ f[k]) : valid (f.set k v hk) = false := by
  obtain hhi | rfl : k ≤ 12 ∨ k = 13 := by omega
  · exact valid_set_covered hf hk hlo hhi hv
  · exact valid_set_checksum hf hv

/-! ## Garbage between frames (R142 (c)) -/

/-- The framing condition at the start changes nothing (R132, R213). -/
theorem perform_rxByte_garbage {s : State} {b : Byte} (hs : atStart s) (hb : b ≠ s.params.sync1) :
    perform (fun p => rxByte p b) s = { s with events := [] } := by
  obtain ⟨hst, hcursor, _⟩ := hs
  rw [perform_rxByte_awaitSync1 b hst, if_neg hb, ← hst, ← hcursor]

theorem traceRun_garbage {s : State} {g : List Byte} (hs : atStart s) (hg : s.params.sync1 ∉ g) :
    ∃ u : State, traceRun (traceRx g) s = .next (u, []) ∧ atStart u ∧ u.rxbuf = s.rxbuf := by
  induction g generalizing s with
  | nil => exact ⟨s, rfl, hs, rfl⟩
  | cons b g ih =>
    obtain ⟨hb, hg⟩ := List.ne_and_not_mem_of_not_mem_cons hg
    obtain ⟨u, hrun, hu, hx⟩ := ih (s := { s with events := [] }) hs hg
    exact ⟨u, traceRun_rxb (perform_rxByte_garbage hs hb.symm) hrun, hu, hx⟩

/-! ## How long a frame in progress can last (R142 (e)) -/

/-- The bytes still missing of the frame being received: none outside a frame, else those from CURSOR on of
max(WANTED, 5) (R139). -/
def bytesLeft (s : State) : Nat :=
  match s.rxstate with
  | .awaitSync1 => 0
  | .awaitSync2 => 0
  | .readingHeader => 0
  | .readingBody => max s.wanted.toNat 5 - s.cursor.toNat
  | .readingChecksum => max s.wanted.toNat 5 - s.cursor.toNat

theorem bytesLeft_inside_frame {s : State} (hst : s.rxstate = .readingBody ∨ s.rxstate = .readingChecksum) :
    bytesLeft s = max s.wanted.toNat 5 - s.cursor.toNat := by
  obtain h | h := hst <;> simp only [bytesLeft, h]

theorem bytesLeft_outside_frame {s : State}
    (hst : s.rxstate = .awaitSync1 ∨ s.rxstate = .awaitSync2 ∨ s.rxstate = .readingHeader) : bytesLeft s = 0 := by
  obtain h | h | h := hst <;> simp only [bytesLeft, h]

theorem outside_or_inside_frame (s : State) :
    (s.rxstate = .awaitSync1 ∨ s.rxstate = .awaitSync2 ∨ s.rxstate = .readingHeader) ∨
      (s.rxstate = .readingBody ∨ s.rxstate = .readingChecksum) := by
  cases s.rxstate <;> simp

/-- WANTED is at most 18, and three bytes have been received (R26). -/
theorem bytesLeft_le_fifteen {s : State} (h : receiverInv s) : bytesLeft s ≤ 15 := by
  obtain hout | hst | hst := outside_or_inside_frame s
  · exact (bytesLeft_outside_frame hout).trans_le (Nat.zero_le 15)
  · obtain ⟨_, hlo, _, _, _, hwanted, _⟩ := (receiverInv_readingBody hst).mp h
    rw [bytesLeft_inside_frame (.inl hst)]
    omega
  · obtain ⟨_, hplace, _⟩ := (receiverInv_readingChecksum hst).mp h
    rw [bytesLeft_inside_frame (.inr hst)]
    omega

/-- Each byte of a frame leaves one byte fewer of it (R135, R136). -/
theorem bytesLeft_rxb {s : State} (b : Byte) (h : receiverInv s)
    (hst : s.rxstate = .readingBody ∨ s.rxstate = .readingChecksum) :
    bytesLeft (perform (fun p => rxByte p b) s) + 1 = bytesLeft s := by
  rw [bytesLeft_inside_frame hst]
  obtain hst | hst := hst
  · obtain ⟨_, hlo, hplace, hhi, _⟩ := (receiverInv_readingBody hst).mp h
    have hnext : (s.cursor + 1).toNat = s.cursor.toNat + 1 := cursor_add_one_toNat (by omega)
    rw [perform_rxByte_readingBody b hst, bytesLeft_inside_frame (by dsimp only; split <;> simp), hnext]
    show max s.wanted.toNat 5 - (s.cursor.toNat + 1) + 1 = max s.wanted.toNat 5 - s.cursor.toNat
    omega
  · obtain ⟨_, hplace, _⟩ := (receiverInv_readingChecksum hst).mp h
    have hend : bytesLeft (perform (fun p => rxByte p b) s) = 0 := by
      rw [perform_rxByte_readingChecksum b hst]
      rfl
    omega

theorem bytesLeft_pos {s : State} (h : receiverInv s)
    (hst : s.rxstate = .readingBody ∨ s.rxstate = .readingChecksum) : 0 < bytesLeft s :=
  bytesLeft_rxb 0 h hst ▸ Nat.succ_pos _

/-- As many bytes as the frame in progress still misses end it. -/
theorem traceRun_to_frame_end {s : State} {bytes : List Byte} (hp : standardLengths s.params) (h : receiverInv s)
    (hlen : bytesLeft s ≤ bytes.length) :
    ∃ (k : Nat) (t : State) (es : List Event), k ≤ bytes.length ∧
      traceRun (traceRx (bytes.take k)) s = .next (t, es) ∧
      (t.rxstate = .awaitSync1 ∨ t.rxstate = .awaitSync2 ∨ t.rxstate = .readingHeader) := by
  obtain hout | hin := outside_or_inside_frame s
  · exact ⟨0, s, [], Nat.zero_le _, rfl, hout⟩
  match bytes with
  | [] => exact absurd hlen (Nat.not_le.mpr (bytesLeft_pos h hin))
  | b :: bytes =>
    have hleft := bytesLeft_rxb b h hin
    rw [List.length_cons] at hlen
    obtain ⟨k, t, es, hk, hrun, ht⟩ :=
      traceRun_to_frame_end (s := perform (fun p => rxByte p b) s) (bytes := bytes) hp (receiverInv_rxb b hp h)
        (by omega)
    exact ⟨k + 1, t, _, Nat.succ_le_succ hk, traceRun_rxb rfl hrun, ht⟩

/-! ## The statements -/

/-- Settles O20: POR establishes the bounds invariant, a step is idle, one operation, or the answer to a reserved
word, and R7 gives the bounds on CURSOR. -/
theorem everyStepStoresInsideTheBuffer : Obligations.EveryStepStoresInsideTheBuffer := by
  refine ⟨fun s t h hstep => ?_, fun s t => boundsInv_por, fun s => cursor_lt_of_boundsInv⟩
  obtain ⟨hp, ⟨_, rfl⟩ | ⟨w, rest, i, _, _, hx⟩ | ⟨w, rest, _, _, rfl⟩⟩ := step_next_cases hstep
  · exact ⟨rfl, h⟩
  · exact ⟨exec_params (s := { s with pending := rest }) hx,
      exec_keeps_boundsInv (s := { s with pending := rest }) hp h hx⟩
  · exact ⟨rfl, h⟩

/-- Settles O17, by whether CHK over the buffer is the byte. -/
theorem byteInReadingChecksum : Obligations.ByteInReadingChecksum := fun s b _ hst =>
  ⟨fun hc => (exec_rxb b s).trans (congrArg _ (perform_rxByte_readingChecksum_ok hst rfl hc)),
    fun hc => (exec_rxb b s).trans (congrArg _ (perform_rxByte_readingChecksum_bad hst rfl hc))⟩

/-- Settles O21: the frame is stored whole, and it is valid. -/
theorem wellFormedFrameYieldsItselfOnce : Obligations.WellFormedFrameYieldsItselfOnce := by
  intro s f hp hs ⟨h0, h1, h2, hvalid⟩
  have ⟨_, _, hsize⟩ := hs
  have hrun := traceRun_traceRxFrame hp hs h0 h1 h2
  obtain ⟨hevents, hbase⟩ := endOfFrame_of_valid s hvalid
  rw [hevents] at hrun
  refine ⟨_, hrun,
    atStart_endOfFrame (length_bufferAfter_wireBytes f hp hsize), frameOf_bufferAfter_wireBytes f s, rfl, ?_, rfl⟩
  rw [endOfFrame_baseId]
  exact hbase

/-- Settles O22: the length is still that of fourteen bytes, and the frame is no longer valid. -/
theorem singleByteCorruptionIsOneChecksumError : Obligations.SingleByteCorruptionIsOneChecksumError := by
  intro s f k hk v hp hs ⟨h0, h1, h2, hvalid⟩ hv hoffset
  have ⟨_, _, hsize⟩ := hs
  have hlo : 2 ≤ k := by omega
  have hget0 : (f.set k v hk)[0] = s.params.sync1 := (Vector.getElem_set_ne hk (by decide) (by omega)).trans h0
  have hget1 : (f.set k v hk)[1] = s.params.sync2 := (Vector.getElem_set_ne hk (by decide) (by omega)).trans h1
  have hget2 : (f.set k v hk)[2] &&& s.params.lenMask = s.params.lenFixed := by
    obtain h3 | ⟨rfl, hmask⟩ := hoffset
    · rw [Vector.getElem_set_ne hk (by decide) (by omega), h2]
    · rw [Vector.getElem_set_self, hmask]
  have hrun := traceRun_traceRxFrame hp hs hget0 hget1 hget2
  obtain ⟨hevents, hbase⟩ := endOfFrame_of_not_valid s (valid_set_of_two_le hvalid hk hlo hv)
  rw [hevents] at hrun
  refine ⟨_, hrun, atStart_endOfFrame (length_bufferAfter_wireBytes _ hp hsize), ?_, rfl⟩
  rw [endOfFrame_baseId]
  exact hbase

/-- Settles O23: the frame is fed from the start again, under the same P. -/
theorem garbageIsDiscardedBeforeAFrame : Obligations.GarbageIsDiscardedBeforeAFrame := by
  refine ⟨fun s u g f hp hs hg hu hf => ?_, fun s g => traceRun_garbage⟩
  have hparams := traceRun_params hg
  rw [← hparams] at hp hf ⊢
  obtain ⟨t, hrun, ht, _⟩ := wellFormedFrameYieldsItselfOnce u f hp hu hf
  exact ⟨t, traceRun_append_silent hg hrun, ht⟩

/-- Settles O24, by the run of a frame of any length and the two ends of R136. -/
theorem everyFrameEndsInExactlyOneOutcome : Obligations.EveryFrameEndsInExactlyOneOutcome := by
  intro s h c body hp hs wanted bytes hbody
  have hwanted : (wantedLen s.params h).toNat = wanted := wantedLen_toNat_mod s.params h
  have hlen : bytes.length = max wanted 5 := by
    simp only [bytes, List.length_cons, List.length_append, List.length_nil]
    omega
  have ⟨_, _, hsize⟩ := hs
  have hfit : bytes.length ≤ s.rxbuf.length := by
    have hcap := frameLen_le_rxbufCap hp
    have hlong := wantedLen_le_rxbufCap hp h
    rw [hlen, show s.rxbuf.length = s.params.rxbufCap from hsize]
    omega
  have hx : bufferAfter bytes s = bytes ++ s.rxbuf.drop (max wanted 5) := by rw [bufferAfter, hlen]
  have hrun := traceRun_frame c hp hs (hwanted.symm ▸ hbody) (bytes := bytes) rfl
  refine ⟨hlen, _, _, hrun, atStart_endOfFrame ((length_bufferAfter hfit).trans hsize), hwanted, rfl, hx,
    fun hc => ⟨endEvents_ok hc, ?ok⟩, fun hc => ⟨endEvents_bad hc, ?bad⟩⟩
  case ok => exact (endOfFrame_baseId ..).trans (endBaseId_ok hc)
  case bad => exact (endOfFrame_baseId ..).trans (endBaseId_bad hc)

/-- Settles O25: a frame in progress misses at most fifteen bytes. -/
theorem frameInProgressEndsWithinSeventeenBytes : Obligations.FrameInProgressEndsWithinSeventeenBytes := by
  intro s bytes hp h hlen
  have hleft : bytesLeft s ≤ bytes.length := hlen ▸ (bytesLeft_le_fifteen h).trans (by decide)
  rw [← hlen]
  exact traceRun_to_frame_end hp h hleft

/-- Settles O31: both are the delivery of the frame as one of its class. -/
theorem checksumMatchRunsTheClassRow : Obligations.ChecksumMatchRunsTheClassRow := by
  intro s b _ hst hc
  refine ⟨_, exec_decodeReceived _ _ _, ?_⟩
  rw [perform_deliverAs, exec_rxb, perform_rxByte_readingChecksum_ok hst rfl hc]

/-- Settles O12. -/
theorem reopenResult : Obligations.ReopenResult := exec_reopen

/-- Settles O13. -/
theorem byteInAwaitSync1 : Obligations.ByteInAwaitSync1 := fun s b hst =>
  (exec_rxb b s).trans (congrArg _ (perform_rxByte_awaitSync1 b hst))

/-- Settles O14. -/
theorem byteInAwaitSync2 : Obligations.ByteInAwaitSync2 := fun s b hst =>
  (exec_rxb b s).trans (congrArg _ (perform_rxByte_awaitSync2 b hst))

/-- Settles O15. -/
theorem byteInReadingHeader : Obligations.ByteInReadingHeader := fun s b hst =>
  ⟨wantedLen s.params b, wantedLen_toNat_mod s.params b,
    (exec_rxb b s).trans (congrArg _ (perform_rxByte_readingHeader b hst))⟩

/-- Settles O16: CURSOR does not wrap, so the test of R135 is that of the model. -/
theorem byteInReadingBody : Obligations.ByteInReadingBody := by
  intro s b _ hwrap hst
  have hnext : (s.cursor + 1).toNat = s.cursor.toNat + 1 := cursor_add_one_toNat hwrap
  rw [exec_rxb, perform_rxByte_readingBody b hst, hnext]
  simp only [Nat.sub_le_iff_le_add]

/-- Settles O26: the second SYNC1 takes the machine back to the start, where SYNC2 is garbage. -/
theorem repeatedSync1DoesNotSynchronise : Obligations.RepeatedSync1DoesNotSynchronise := by
  intro s hs hne
  have ⟨hst, hcursor, _⟩ := hs
  have hfirst := perform_rxByte_awaitSync1 s.params.sync1 hst
  rw [if_pos rfl] at hfirst
  have hsecond := perform_rxByte_awaitSync2
    (s := { s with rxstate := .awaitSync2, cursor := 0, events := [] }) s.params.sync1 rfl
  rw [if_neg hne, ← hst, ← hcursor] at hsecond
  rw [← hcursor] at hfirst
  have hthird := perform_rxByte_garbage (s := { s with events := [] }) hs hne.symm
  exact traceRun_rxb hfirst (traceRun_rxb hsecond (traceRun_rxb_singleton hthird))

end Sys2Proof.Machine
end

section
/-! The received class rows performed, the header byte of a built frame, and the statements of 42_dispatch.md about them
(R152 to R158; 70_reset_and_hazards.md R257; notes/assumptions/11.md). -/

namespace Sys2Proof.Machine

open Sys2Proof.Safety

/-! ## A class row performed (R152 to R157) -/

theorem perform_deliverAs_baseId (f : Frame) (s : State) :
    perform (fun _ => deliverAs .baseId f) s =
      { s with baseId := baseVal f, events := [.frameOk f .baseId, .baseIdSet (baseVal f)] } :=
  perform_deliverAs .baseId f s

/-- Only a base-ID info frame writes state; every other class reports and no more. -/
theorem perform_deliverAs_of_ne_baseId {cls : FrameClass} (hcls : cls ≠ .baseId) (f : Frame) (s : State) :
    perform (fun _ => deliverAs cls f) s = { s with events := [.frameOk f cls, followUp cls f] } := by
  rw [perform_deliverAs, capturedBase, if_neg hcls]

/-! ## The header of a built frame (R85, R158) -/

theorem hdrOf_of_queryKind {p : Params} {f : Frame} (hf : queryKind p f) : hdrOf f = hdrBuild p := by
  have hquery (org : Byte) : hdrOf (queryFrame p org) = hdrBuild p :=
    congrArg hdrOf (queryFrame_zeroPayload p org)
  obtain rfl | rfl | rfl := hf <;> exact hquery _

theorem hdrOf_sealedRadioFrame (p : Params) (org d3 d2 d1 d0 : Byte) (id : NodeId) (st : Byte) :
    hdrOf (sealedRadioFrame p org d3 d2 d1 d0 id st) = p.hdrRadioTx := by
  obtain ⟨_, _, hhdr, _⟩ := sealedRadioFrame_bytes p org d3 d2 d1 d0 id st
  exact hhdr

theorem hdrOf_of_radioKind {p : Params} {id : NodeId} {f : Frame} (hf : radioKind p id f) :
    hdrOf f = p.hdrRadioTx := by
  obtain ⟨rid, ud, rfl⟩ | ⟨rid, rfl⟩ | ⟨pct, _, rfl⟩ | rfl := hf
  · rw [rpsPressFrame_sealed, hdrOf_sealedRadioFrame]
  · rw [rpsReleaseFrame_sealed, hdrOf_sealedRadioFrame]
  · rw [dimFrame_sealed, hdrOf_sealedRadioFrame]
  · rw [teachFrame_sealed, hdrOf_sealedRadioFrame]

/-! ## The acknowledgement shape swallows its frames (R151 to R153) -/

theorem exists_classify_ack {p : Params} {f : Frame} (hh : hdrOf f = p.hdrAck) (hs : p.ackSwallowUnknown = true) :
    ∃ c, classify p f = .ack c := by
  cases hl : ackLookup p.ackTable (orgOf f) with
  | some n => exact ⟨.known n, classify_of_ackLookup_some hh hl⟩
  | none => exact ⟨.unknownCode, (classify_of_ackLookup_none hh hl).trans (if_pos hs)⟩

/-! ## The statements -/

/-- Settles O49: a query has the header HDR_BUILD, a frame for a node HDR_RADIO_TX, and both are HDR_ACK. -/
theorem echoOfBuiltFramesIsSwallowed : Obligations.EchoOfBuiltFramesIsSwallowed := by
  intro p f _ hbuild hradio hs hf
  have hh : hdrOf f = p.hdrAck := by
    obtain hquery | ⟨id, hnode⟩ := hf
    · exact (hdrOf_of_queryKind hquery).trans hbuild
    · exact (hdrOf_of_radioKind hnode).trans hradio
  exact exists_classify_ack hh hs

/-- Settles O28: each row is the delivery of its frame as an acknowledgement, which writes no state. -/
theorem acknowledgementRowsOnlyReport : Obligations.AcknowledgementRowsOnlyReport := by
  intro f s done
  have hrow (c : AckCode) : .next (perform (fun _ => deliverAs (.ack c) f) s) = done c :=
    congrArg _ (perform_deliverAs_of_ne_baseId (by simp) f s)
  exact
    ⟨(exec_rxAckIdBaseOk f s).trans (hrow _), (exec_rxAckNotWantedAck f s).trans (hrow _),
      (exec_rxAckNotAck f s).trans (hrow _), (exec_rxAckDuplicateId f s).trans (hrow _),
      (exec_rxAckErrHeaderSeq f s).trans (hrow _), (exec_rxAckErrLength f s).trans (hrow _),
      (exec_rxAckErrChecksum f s).trans (hrow _), (exec_rxAckErrType f s).trans (hrow _),
      (exec_rxAckErrTxIdrange f s).trans (hrow _), (exec_rxAckErrIdrange f s).trans (hrow _),
      (exec_rxAckUnknown f s).trans (hrow _)⟩

/-- Settles O29: the value written is BASEVAL, the big-endian assembly of the four data bytes. -/
theorem baseIdRowWritesBaseId : Obligations.BaseIdRowWritesBaseId := by
  intro f s
  obtain ⟨hassembled, _⟩ := assembliesAreBigEndian
  obtain ⟨_, hbaseVal, _⟩ := hassembled f
  exact ⟨baseVal f, hbaseVal, (exec_rxBaseid f s).trans (congrArg _ (perform_deliverAs_baseId f s))⟩

/-- Settles O30: each row is the delivery of its frame as one of a class that writes no state. -/
theorem telegramRowsHandTheFrameOut : Obligations.TelegramRowsHandTheFrameOut := by
  intro f s
  rw [exec_rxRps, exec_rx4bs, exec_rxOther, perform_deliverAs_of_ne_baseId (by simp),
    perform_deliverAs_of_ne_baseId (by simp), perform_deliverAs_of_ne_baseId (by simp)]
  exact ⟨rfl, rfl, rfl⟩

end Sys2Proof.Machine
end

section
/-! The build operations as steps of the machine, the two ways a command can end, the queue invariant under every step,
and the statements of 43_command_builder.md (R170 to R184; 44_outbound_queue.md R200; 60_exceptions.md R216, R219). -/

namespace Sys2Proof.Machine

open Sys2Proof.Safety

/-! ## A frame of a built kind (R85) -/

theorem exists_sealedRadioFrame_of_radioKind {p : Params} {id : NodeId} {f : Frame} (hf : radioKind p id f) :
    ∃ org d3 d2 d1 d0 st, f = sealedRadioFrame p org d3 d2 d1 d0 id st := by
  obtain ⟨rid, ud, rfl⟩ | ⟨rid, rfl⟩ | ⟨pct, _, rfl⟩ | rfl := hf
  · exact ⟨_, _, _, _, _, _, rpsPressFrame_sealed p rid ud id⟩
  · exact ⟨_, _, _, _, _, _, rpsReleaseFrame_sealed p rid id⟩
  · exact ⟨_, _, _, _, _, _, dimFrame_sealed p pct id⟩
  · exact ⟨_, _, _, _, _, _, teachFrame_sealed p id⟩

theorem nodeId_sealedRadioFrame (p : Params) (org d3 d2 d1 d0 : Byte) (id : NodeId) (st : Byte) :
    nodeId (sealedRadioFrame p org d3 d2 d1 d0 id st) = id := by
  have hwritten := nodeId_writeId (Vector.replicate frameLen 0) id
  simpa [nodeId, writeId, sealedRadioFrame, sealFrame] using hwritten

theorem nodeId_of_radioKind {p : Params} {id : NodeId} {f : Frame} (hf : radioKind p id f) : nodeId f = id := by
  obtain ⟨org, d3, d2, d1, d0, st, rfl⟩ := exists_sealedRadioFrame_of_radioKind hf
  exact nodeId_sealedRadioFrame p org d3 d2 d1 d0 id st

/-- Both headers the block builds with carry the length LEN_FIXED (R7). -/
theorem built_header_lengths {p : Params} (hp : paramsOk p = true) :
    hdrBuild p &&& p.lenMask = p.lenFixed ∧ p.hdrRadioTx &&& p.lenMask = p.lenFixed := by
  simp only [paramsOk, lengthsOk, Bool.and_eq_true, decide_eq_true_eq] at hp
  obtain ⟨⟨⟨⟨_, hbuild⟩, hradio⟩, _⟩, _⟩ := hp
  exact ⟨hbuild, hradio⟩

theorem wellFramed_queryFrame {p : Params} (hp : paramsOk p = true) (org : Byte) :
    wellFramed p (queryFrame p org) := by
  obtain ⟨hbuild, _⟩ := built_header_lengths hp
  refine ⟨?_, ?_, ?_, valid_sealFrame _⟩
  all_goals rw [queryFrame_zeroPayload]
  · rfl
  · rfl
  · exact hbuild

theorem wellFramed_sealedRadioFrame {p : Params} (hp : paramsOk p = true) (org d3 d2 d1 d0 : Byte) (id : NodeId)
    (st : Byte) : wellFramed p (sealedRadioFrame p org d3 d2 d1 d0 id st) := by
  obtain ⟨_, hradio⟩ := built_header_lengths hp
  obtain ⟨h0, h1, h2, _⟩ := sealedRadioFrame_bytes p org d3 d2 d1 d0 id st
  exact ⟨h0, h1, h2 ▸ hradio, valid_sealFrame _⟩

/-- A frame of a built kind is one the receiver takes whole (R142 (a), R184). -/
theorem wellFramed_of_builtKind {p : Params} {f : Frame} (hp : paramsOk p = true) (hf : builtKind p f) :
    wellFramed p f := by
  obtain (rfl | rfl | rfl) | ⟨id, hradio⟩ := hf
  · exact wellFramed_queryFrame hp _
  · exact wellFramed_queryFrame hp _
  · exact wellFramed_queryFrame hp _
  · obtain ⟨org, d3, d2, d1, d0, st, rfl⟩ := exists_sealedRadioFrame_of_radioKind hradio
    exact wellFramed_sealedRadioFrame hp org d3 d2 d1 d0 id st

theorem goodEntry_of_builtKind {p : Params} {f : Frame} (hp : paramsOk p = true) (hf : builtKind p f) :
    goodEntry p f := by
  obtain ⟨h0, h1, h2, hvalid⟩ := wellFramed_of_builtKind hp hf
  exact ⟨hvalid, h0, h1, h2, hf⟩

/-! ## The level and the path of SWITCH (R89, R177) -/

theorem clampLevel_le (p : Params) (v : Byte) : (clampLevel p v).toNat ≤ p.levelMax.toNat := by
  rw [clampLevel_toNat]
  exact Nat.min_le_left _ _

theorem scale_le_levelMax {p : Params} {cmd : Cmd} {level last pct : Byte} {isDimmer : Bool}
    (h : scale p cmd level last isDimmer = some pct) : pct.toNat ≤ p.levelMax.toNat := by
  cases cmd with
  | setLevel =>
    obtain rfl : scaleLevel p level = pct := Option.some.inj h
    rw [scaleLevel_toNat]
    exact Nat.min_le_left _ _
  | on =>
    cases isDimmer with
    | true =>
      obtain rfl : clampLevel p last = pct := Option.some.inj h
      exact clampLevel_le p last
    | false => cases h
  | off =>
    cases isDimmer with
    | true =>
      obtain rfl : 0 = pct := Option.some.inj h
      exact Nat.zero_le _
    | false => cases h

theorem scale_rocker (p : Params) {cmd : Cmd} (hcmd : cmd ≠ .setLevel) (level last : Byte) :
    scale p cmd level last false = none := by
  cases cmd with
  | on => rfl
  | off => rfl
  | setLevel => exact absurd rfl hcmd

theorem upDown_eq (cmd : Cmd) : upDown cmd = if cmd = .on then 1 else 0 := by
  cases cmd <;> rfl

theorem rockerIndex_toNat (unit : Byte) : (rockerIndex unit).toNat = (unit.toNat + 255) % 256 % 4 := by
  simp [rockerIndex, BitVec.toNat_sub, Nat.add_comm]

/-! ## The room of a state (R182) -/

theorem hasRoom_of_le {m n : Nat} {s : State} (h : hasRoom n s) (hmn : m ≤ n) : hasRoom m s := fun d hd =>
  (Nat.add_le_add_left hmn _).trans (h d hd)

/-! ## A build operation turned away (R170, R182) -/

/-- Two operations that do the same to the block as it stands perform the same. -/
theorem perform_congr {s : State} {op op' : Params → OpState → OpState}
    (h : op s.params (startOp s.toBlock) = op' s.params (startOp s.toBlock)) : perform op s = perform op' s :=
  congrArg (finishOp · s) h

/-- An operation that only raises a command error changes nothing but the list it returns (R216). -/
theorem perform_of_cmdError {s : State} {op : Params → OpState → OpState} {c : ErrCode}
    (h : op s.params (startOp s.toBlock) = raiseCond (.cmdError c) (startOp s.toBlock)) :
    perform op s = { s with events := [.cmdErr c] } :=
  congrArg (finishOp · s) h

theorem perform_buildOne_full {s : State} {t : Params → Frame} (hroom : ¬ hasRoom 1 s) :
    perform (fun p => buildOne p (t p)) s = { s with events := [.cmdErr .qFull] } :=
  perform_of_cmdError (if_neg (mt (room_hasRoom 1 s).mp hroom))

theorem perform_buildForNode_outOfRange {s : State} {id : NodeId} {t : Params → Frame} (hid : ¬ idInWindow s id) :
    perform (fun p => buildForNode p id (t p)) s = { s with events := [.cmdErr .idRange] } :=
  perform_of_cmdError (if_neg (mt (inRange_idInWindow s id).mp hid))

theorem perform_buildForNode_full {s : State} {id : NodeId} {t : Params → Frame} (hid : idInWindow s id)
    (hroom : ¬ hasRoom 1 s) :
    perform (fun p => buildForNode p id (t p)) s = { s with events := [.cmdErr .qFull] } :=
  (perform_congr (if_pos ((inRange_idInWindow s id).mpr hid))).trans (perform_buildOne_full (t := t) hroom)

/-! ## SWITCH, path by path (R177 to R179) -/

section Switch

variable {s : State} {id : NodeId} {unit : Byte} {cmd : Cmd} {level last : Byte} {isDimmer : Bool}

theorem perform_switchCommand_badUnit (hunit : s.params.unitLimit ≤ unit.toNat) :
    perform (fun p => switchCommand p id unit cmd level isDimmer last) s = { s with events := [.cmdErr .unit] } :=
  perform_of_cmdError (if_pos hunit)

theorem perform_switchCommand_outOfRange (hunit : unit.toNat < s.params.unitLimit) (hid : ¬ idInWindow s id) :
    perform (fun p => switchCommand p id unit cmd level isDimmer last) s =
      { s with events := [.cmdErr .idRange] } :=
  perform_of_cmdError ((if_neg (Nat.not_le.mpr hunit)).trans (if_neg (mt (inRange_idInWindow s id).mp hid)))

/-- A request of the dim path is the build of its dim frame for the node, range test included. -/
theorem perform_switchCommand_dim {pct : Byte} (hunit : unit.toNat < s.params.unitLimit)
    (hscale : scale s.params cmd level last isDimmer = some pct) :
    perform (fun p => switchCommand p id unit cmd level isDimmer last) s =
      perform (fun p => buildForNode p id (dimT p pct id)) s := by
  apply perform_congr
  rw [switchCommand, if_neg (Nat.not_le.mpr hunit), hscale]
  rfl

theorem perform_switchCommand_rocker (hunit : unit.toNat < s.params.unitLimit) (hid : idInWindow s id)
    (hscale : scale s.params cmd level last isDimmer = none) :
    perform (fun p => switchCommand p id unit cmd level isDimmer last) s =
      perform (fun p => rockerPath p id unit cmd) s := by
  have hin : inRange s.params id (startOp s.toBlock).baseId = true := (inRange_idInWindow s id).mpr hid
  apply perform_congr
  rw [switchCommand, if_neg (Nat.not_le.mpr hunit), if_pos hin, hscale]

/-- The second frame is the release frame built on its own, although it is made of the first (R178). -/
theorem perform_rockerPath_ok (hroom : hasRoom 2 s) :
    perform (fun p => rockerPath p id unit cmd) s =
      { s with
        txq := s.txq ++ [rpsPressFrame s.params (rockerIndex unit) (upDown cmd) id,
          rpsReleaseFrame s.params (rockerIndex unit) id]
        events := [.cmdOk 2] } := by
  obtain ⟨_, hpath⟩ | ⟨hfull, _⟩ := rockerPath_cases s.params id unit cmd (startOp s.toBlock)
  · rw [perform_eq, hpath, writeRelease_of_press, sealFrame_sealFrame]
    rfl
  · exact absurd hroom ((room_eq_false 2 s).mp hfull)

theorem perform_rockerPath_full (hroom : ¬ hasRoom 2 s) :
    perform (fun p => rockerPath p id unit cmd) s = { s with events := [.cmdErr .qFull] } :=
  perform_of_cmdError (if_neg (mt (room_hasRoom 2 s).mp hroom))

end Switch

/-! ## The two ways a command can end (R170, R184) -/

/-- A frame a command may append in state `s`: a query, or one for a node in the window of that moment (R184 (d)). -/
def MayAppend (s : State) (f : Frame) : Prop :=
  queryKind s.params f ∨ ∃ id, idInWindow s id ∧ radioKind s.params id f

/-- What a command operation of the machine can leave: an error and nothing else, or one or two more frames and
CMD_OK with their number. -/
inductive CommandEnd (s : State) : State → Prop where
  | error (c : ErrCode) : CommandEnd s { s with events := [.cmdErr c] }
  | appended {new : List Frame} (hne : new ≠ []) (hlen : new.length ≤ 2) (hroom : hasRoom new.length s)
      (hnew : ∀ f ∈ new, MayAppend s f) :
      CommandEnd s { s with txq := s.txq ++ new, events := [.cmdOk new.length] }

theorem builtKind_of_mayAppend {s : State} {f : Frame} (h : MayAppend s f) : builtKind s.params f :=
  h.imp_right fun ⟨id, _, hradio⟩ => ⟨id, hradio⟩

theorem commandEnd_appended_one {s : State} {f : Frame} (hroom : hasRoom 1 s) (hf : MayAppend s f) :
    CommandEnd s { s with txq := s.txq ++ [f], events := [.cmdOk 1] } :=
  .appended (new := [f]) (List.cons_ne_nil f []) (Nat.le_succ 1) hroom (List.forall_mem_singleton.mpr hf)

theorem commandEnd_buildOne {s : State} {t : Params → Frame} (hf : MayAppend s (sealFrame (t s.params))) :
    CommandEnd s (perform (fun p => buildOne p (t p)) s) := by
  by_cases hroom : hasRoom 1 s
  · rw [perform_buildOne_ok hroom rfl]
    exact commandEnd_appended_one hroom hf
  · rw [perform_buildOne_full hroom]
    exact .error .qFull

theorem commandEnd_buildForNode {s : State} {id : NodeId} {t : Params → Frame}
    (hf : radioKind s.params id (sealFrame (t s.params))) :
    CommandEnd s (perform (fun p => buildForNode p id (t p)) s) := by
  by_cases hid : idInWindow s id
  · by_cases hroom : hasRoom 1 s
    · rw [perform_buildForNode_ok hid hroom rfl]
      exact commandEnd_appended_one hroom (.inr ⟨id, hid, hf⟩)
    · rw [perform_buildForNode_full hid hroom]
      exact .error .qFull
  · rw [perform_buildForNode_outOfRange hid]
    exact .error .idRange

theorem commandEnd_rockerPath {s : State} {id : NodeId} (hid : idInWindow s id) (unit : Byte) (cmd : Cmd) :
    CommandEnd s (perform (fun p => rockerPath p id unit cmd) s) := by
  by_cases hroom : hasRoom 2 s
  · rw [perform_rockerPath_ok hroom]
    refine .appended (List.cons_ne_nil _ _) le_rfl hroom fun f hf => .inr ⟨id, hid, ?_⟩
    obtain rfl | rfl := List.mem_pair.mp hf
    · exact .inl ⟨rockerIndex unit, upDown cmd, rfl⟩
    · exact .inr (.inl ⟨rockerIndex unit, rfl⟩)
  · rw [perform_rockerPath_full hroom]
    exact .error .qFull

theorem commandEnd_switchCommand (s : State) (id : NodeId) (unit : Byte) (cmd : Cmd) (level : Byte) (isDimmer : Bool)
    (last : Byte) : CommandEnd s (perform (fun p => switchCommand p id unit cmd level isDimmer last) s) := by
  obtain hunit | hunit := le_or_gt s.params.unitLimit unit.toNat
  · rw [perform_switchCommand_badUnit hunit]
    exact .error .unit
  cases hscale : scale s.params cmd level last isDimmer with
  | some pct =>
    rw [perform_switchCommand_dim hunit hscale]
    exact commandEnd_buildForNode (.inr (.inr (.inl ⟨pct, scale_le_levelMax hscale, rfl⟩)))
  | none =>
    by_cases hid : idInWindow s id
    · rw [perform_switchCommand_rocker hunit hid hscale]
      exact commandEnd_rockerPath hid unit cmd
    · rw [perform_switchCommand_outOfRange hunit hid]
      exact .error .idRange

/-- All an operation of the command agent can do, a frame row included (notes/assumptions/10.md and 18.md). -/
theorem commandEnd_of_exec {i : Instr} {s t : State} (ha : i.agent = .command) (h : exec i s = .next t) :
    CommandEnd s t := by
  cases i with
  | fRdIdbase | qbase => cases h; exact commandEnd_buildOne (.inl (.inl rfl))
  | fRdSwVer | qver => cases h; exact commandEnd_buildOne (.inl (.inr (.inl rfl)))
  | fReset | qreset => cases h; exact commandEnd_buildOne (.inl (.inr (.inr rfl)))
  | fRpsPress rid ud id => cases h; exact commandEnd_buildForNode (.inl ⟨rid, ud, rfl⟩)
  | fRpsRelease rid id => cases h; exact commandEnd_buildForNode (.inr (.inl ⟨rid, rfl⟩))
  | f4bsDim pct id =>
    cases h
    exact commandEnd_buildForNode (.inr (.inr (.inl ⟨clampLevel s.params pct, clampLevel_le s.params pct, rfl⟩)))
  | f4bsTeach id | teach id => cases h; exact commandEnd_buildForNode (.inr (.inr (.inr rfl)))
  | switch id unit cmd level isDimmer last =>
    cases h
    exact commandEnd_switchCommand s id unit cmd level isDimmer last
  | _ => cases ha

/-! ## The queue invariant (R184 (a), R200) -/

/-- Taking entries out of the queue keeps it good. -/
theorem queueInv_of_sublist {s t : State} (h : queueInv s) (hp : t.params = s.params) (hq : t.txq.Sublist s.txq) :
    queueInv t := by
  obtain ⟨hgood, hbound⟩ := h
  refine ⟨fun f hf => ?_, fun d hd => hq.length_le.trans (hbound d (hp ▸ hd))⟩
  rw [hp]
  exact hgood f (hq.subset hf)

theorem queueInv_of_commandEnd {s t : State} (hp : paramsOk s.params = true) (h : queueInv s) (ht : CommandEnd s t) :
    queueInv t := by
  cases ht with
  | error c => exact h
  | @appended new _ _ hroom hnew =>
    obtain ⟨hgood, _⟩ := h
    refine ⟨fun f hf => ?_, fun d hd => List.length_append.trans_le (hroom d hd)⟩
    obtain hold | hadded := List.mem_append.mp hf
    · exact hgood f hold
    · exact goodEntry_of_builtKind hp (builtKind_of_mayAppend (hnew f hadded))

theorem exec_keeps_queueInv {i : Instr} {s t : State} (hp : paramsOk s.params = true) (h : queueInv s)
    (hx : exec i s = .next t) : queueInv t := by
  have hparams := exec_params hx
  obtain ⟨ha, _⟩ | ⟨_, cls, f, rfl⟩ | ⟨b, _, rfl⟩ | ⟨_, e, _, rfl⟩ | ⟨_, rfl⟩ | ⟨_, rfl⟩ := exec_next_cases hx
  · exact queueInv_of_commandEnd hp h (commandEnd_of_exec ha hx)
  · exact h
  · exact queueInv_of_sublist h hparams (perform_rxByte_txq b s ▸ List.Sublist.refl _)
  · exact queueInv_of_sublist h hparams (List.tail_sublist s.txq)
  · exact h
  · exact queueInv_of_sublist h hparams (List.nil_sublist s.txq)

/-! ## The statements -/

/-- Settles O45: a command appends frames of a built kind where there is room, and no other operation adds to the
queue. -/
theorem everyStepKeepsTheQueueInvariant : Obligations.EveryStepKeepsTheQueueInvariant := by
  intro s t h hstep
  obtain ⟨hp, ⟨_, rfl⟩ | ⟨w, rest, i, _, _, hx⟩ | ⟨w, rest, _, _, rfl⟩⟩ := step_next_cases hstep
  · exact ⟨rfl, h⟩
  · exact ⟨exec_params (s := { s with pending := rest }) hx,
      exec_keeps_queueInv (s := { s with pending := rest }) hp h hx⟩
  · exact ⟨rfl, h⟩

/-- Settles O32: each query is the operation of its frame row, and a full queue turns all three away. -/
theorem queriesEnqueueOneZeroPayloadFrame : Obligations.QueriesEnqueueOneZeroPayloadFrame := fun s =>
  ⟨queryRowsEnqueueTheirFrame s, fun hroom =>
    ⟨(exec_qbase s).trans (congrArg _ (perform_buildOne_full hroom)),
      (exec_qver s).trans (congrArg _ (perform_buildOne_full hroom)),
      (exec_qreset s).trans (congrArg _ (perform_buildOne_full hroom))⟩⟩

/-- Settles O35: a query row is a build of one frame, a node row one for its node. -/
theorem frameRowsTurnedAwayChangeNothing : Obligations.FrameRowsTurnedAwayChangeNothing := by
  intro s id rid ud pct i
  refine ⟨fun hi hroom => ?query, fun hi => ?node⟩
  case query =>
    obtain rfl | rfl | rfl := hi
    · exact (exec_fRdIdbase s).trans (congrArg _ (perform_buildOne_full hroom))
    · exact (exec_fRdSwVer s).trans (congrArg _ (perform_buildOne_full hroom))
    · exact (exec_fReset s).trans (congrArg _ (perform_buildOne_full hroom))
  case node =>
    have hbuild : ∃ t : Params → Frame, exec i s = .next (perform (fun p => buildForNode p id (t p)) s) := by
      obtain rfl | rfl | rfl | rfl := hi
      · exact ⟨_, exec_fRpsPress rid ud id s⟩
      · exact ⟨_, exec_fRpsRelease rid id s⟩
      · exact ⟨_, exec_f4bsDim pct id s⟩
      · exact ⟨_, exec_f4bsTeach id s⟩
    obtain ⟨t, hexec⟩ := hbuild
    exact ⟨fun hid => hexec.trans (congrArg _ (perform_buildForNode_outOfRange hid)),
      fun hid hroom => hexec.trans (congrArg _ (perform_buildForNode_full hid hroom))⟩

/-- Settles O37, by the rocker path with and without room. -/
theorem rockerSwitchEnqueuesPressThenRelease : Obligations.RockerSwitchEnqueuesPressThenRelease := by
  intro s id unit cmd level last hunit hid hcmd
  have hexec := (exec_switch id unit cmd level false last s).trans
    (congrArg _ (perform_switchCommand_rocker hunit hid (scale_rocker s.params hcmd level last)))
  refine ⟨rockerIndex unit, rockerIndex_toNat unit, fun hroom => ?_, fun hroom => ?_⟩
  · rw [hexec, perform_rockerPath_ok hroom, rpsPressFrame_sealed, rpsReleaseFrame_sealed, upDown_eq]
  · rw [hexec, perform_rockerPath_full hroom]

/-- Settles O38: a request of the dim path is the build of one dim frame for its node. -/
theorem dimSwitchEnqueuesOneDimFrame : Obligations.DimSwitchEnqueuesOneDimFrame := by
  intro s id unit cmd level isDimmer last pct hunit hid hscale
  have hexec := (exec_switch id unit cmd level isDimmer last s).trans
    (congrArg _ (perform_switchCommand_dim hunit hscale))
  refine ⟨fun hroom => hexec.trans (congrArg _ ?_), fun hroom => hexec.trans (congrArg _ ?_)⟩
  · exact perform_buildForNode_ok hid hroom (dimFrame_sealed s.params pct id)
  · exact perform_buildForNode_full hid hroom

/-- Settles O40: TEACH is the build of one teach-in frame for its node. -/
theorem teachEnqueuesOneTeachInFrame : Obligations.TeachEnqueuesOneTeachInFrame := fun s id =>
  ⟨fun hid => (exec_teach id s).trans (congrArg _ (perform_buildForNode_outOfRange hid)),
    fun hid hroom => (exec_teach id s).trans (congrArg _ (perform_buildForNode_full hid hroom)),
    fun hid hroom => (exec_teach id s).trans
      (congrArg _ (perform_buildForNode_ok hid hroom (teachFrame_sealed s.params id)))⟩

/-- Settles O42: of the two ways a command can end only one reports an error. -/
theorem failedCommandsChangeNothing : Obligations.FailedCommandsChangeNothing := by
  intro i s t c ha h hc
  cases commandEnd_of_exec ha h with
  | error c' =>
    obtain rfl : c = c' := Event.cmdErr.inj (List.mem_singleton.mp hc)
    rfl
  | appended => cases List.mem_singleton.mp hc

/-- Settles O43, by the two ways a command can end. -/
theorem commandsAppendNothingExactlyOnError : Obligations.CommandsAppendNothingExactlyOnError := by
  intro i s ha
  obtain ⟨t, ht⟩ := exec_next i s
  cases commandEnd_of_exec ha ht with
  | error c =>
    exact ⟨_, [], ht, (List.append_nil s.txq).symm, Nat.zero_le 2, fun _ => ⟨c, rfl⟩, fun hne => absurd rfl hne⟩
  | @appended new hne hlen => exact ⟨_, new, ht, rfl, hlen, fun hnil => absurd hnil hne, fun _ => rfl⟩

/-- Settles O44: what TXQ has gained is what the command may append, and a frame for a node carries its
identifier. -/
theorem appendedFramesNameNodesInTheWindow : Obligations.AppendedFramesNameNodesInTheWindow := by
  intro i s t new ha h htxq f hf
  cases commandEnd_of_exec ha h with
  | error c =>
    obtain rfl : new = [] := List.self_eq_append_right.mp htxq
    cases hf
  | @appended added _ _ _ hadded =>
    obtain rfl : added = new := List.append_cancel_left htxq
    exact (hadded f hf).imp_right fun ⟨id, hid, hradio⟩ => ⟨id, hid, hradio, nodeId_of_radioKind hradio⟩

/-- Settles O47: the press row leaves room for the release row, and neither moves the window. -/
theorem rockerSwitchIsItsTwoFrameRows : Obligations.RockerSwitchIsItsTwoFrameRows := by
  intro s id unit cmd level last hunit hid hcmd hroom
  have hpress := perform_buildForNode_ok (t := (pressT · (rockerIndex unit) (upDown cmd) id)) hid
    (hasRoom_of_le hroom (Nat.le_succ 1)) rfl
  refine ⟨_, _, (exec_fRpsPress _ _ id s).trans (congrArg _ hpress), (exec_fRpsRelease _ id _).trans
    (congrArg _ (perform_buildForNode_ok hid (fun d hd => ?room) rfl)), ?switch⟩
  case room => simpa [Nat.add_assoc] using hroom d hd
  case switch =>
    rw [exec_switch, perform_switchCommand_rocker hunit hid (scale_rocker s.params hcmd level last),
      perform_rockerPath_ok hroom, List.append_cons]
    rfl

/-- Settles O48: a frame of a built kind is well framed, and a well-framed frame is received whole. -/
theorem builtFramesAreReceivedBack : Obligations.BuiltFramesAreReceivedBack := by
  intro s f hp hs hf
  obtain ⟨t, hrun, ht, _⟩ := wellFormedFrameYieldsItselfOnce s f hp hs (wellFramed_of_builtKind hp hf)
  exact ⟨t, hrun, ht⟩

/-- Settles O36: the unit is tested first, then the identifier. -/
theorem switchValidationFailures : Obligations.SwitchValidationFailures :=
  fun s id unit cmd level isDimmer last =>
    ⟨fun hunit => (exec_switch id unit cmd level isDimmer last s).trans
        (congrArg _ (perform_switchCommand_badUnit hunit)),
      fun hunit hid => (exec_switch id unit cmd level isDimmer last s).trans
        (congrArg _ (perform_switchCommand_outOfRange hunit hid))⟩

/-- Settles O41: the bounds are compared as natural numbers, and every identifier is below 2^32 = 0xFFFFFF80 + 128. -/
theorem identifierWindowDoesNotWrap : Obligations.IdentifierWindowDoesNotWrap := by
  intro p id base hspan
  have hwindow : inRange p id base = true ↔ base.toNat < id.toNat ∧ id.toNat ≤ base.toNat + 128 := by
    simp [inRange, hspan]
  have hid := id.isLt
  exact ⟨hwindow, fun hbase => hwindow.trans (by omega), by simp [inRange]⟩

end Sys2Proof.Machine
end

section
/-! The Outbound Queue (44_outbound_queue.md): one DRAIN on an empty and on a non-empty queue, and the drain of a
whole queue (R202). -/

namespace Sys2Proof.Machine

theorem exec_drain_nil {s : State} (h : s.txq = []) : exec .drain s = .next { s with events := [.txEmpty] } := by
  rw [exec_drain, perform_eq, popHead_nil h]
  rfl

theorem exec_drain_cons {s : State} {f : Frame} {rest : List Frame} (h : s.txq = f :: rest) :
    exec .drain s = .next { s with txq := rest, events := [.tx f] } := by
  rw [exec_drain, perform_eq, popHead_cons h]
  rfl

/-- Draining a queue until TX_EMPTY, by induction on the queue: each DRAIN leaves the queue's tail. -/
theorem traceRun_traceDrainAll {q : List Frame} {s : State} (h : s.txq = q) :
    traceRun (traceDrainAll q.length) s =
      .next ({ s with txq := [], events := [.txEmpty] }, q.map Event.tx ++ [.txEmpty]) := by
  induction q generalizing s with
  | nil =>
    have hempty : { s with txq := [], events := [.txEmpty] } = { s with events := [.txEmpty] } := by rw [← h]
    rw [hempty]
    exact traceRun_cons (exec_drain_nil h) rfl
  | cons f rest ih => exact traceRun_cons (exec_drain_cons h) (ih rfl)

/-- Settles O50, by the two cases of DRAIN and induction on the queue. -/
theorem drainHandsOutTheQueueInOrder : Obligations.DrainHandsOutTheQueueInOrder :=
  fun _ => ⟨exec_drain_nil, fun _ _ => exec_drain_cons, traceRun_traceDrainAll rfl⟩

end Sys2Proof.Machine
end

section
/-! The writers of each piece of state (10_state.md R23, R24, R28, R33): which operations can change it, and that every
other one leaves it as it was; and the statement of 60_exceptions.md about them (R222). -/

namespace Sys2Proof.Machine

open Sys2Proof.Safety

/-! ## The receive agent -/

/-- All an operation of the receive agent can be: a byte, the row RX_BASEID, which captures BASE_ID, or a row that
reports and no more (notes/assumptions/11.md and 18.md). -/
theorem receive_next_cases {i : Instr} {s t : State} (ha : i.agent = .receive) (h : exec i s = .next t) :
    (∃ b, i = .rxb b ∧ t = perform (fun p => rxByte p b) s) ∨
      (∃ f es, i = .rxBaseid f ∧ t = { s with baseId := baseVal f, events := es }) ∨
      (∃ es, t = { s with events := es }) := by
  cases i with
  | rxb b => cases h; exact .inl ⟨b, rfl, rfl⟩
  | rxBaseid f => cases h; exact .inr (.inl ⟨f, _, rfl, perform_deliverAs_baseId f s⟩)
  | rxAckIdBaseOk f | rxAckNotWantedAck f | rxAckNotAck f | rxAckDuplicateId f | rxAckErrHeaderSeq f | rxAckErrLength f
  | rxAckErrChecksum f | rxAckErrType f | rxAckErrTxIdrange f | rxAckErrIdrange f | rxAckUnknown f | rxRps f
  | rx4bs f | rxOther f =>
    cases h
    exact .inr (.inr ⟨_, perform_deliverAs_of_ne_baseId (by nofun) f s⟩)
  | _ => cases ha

theorem receive_keeps_txq_fresh {i : Instr} {s t : State} (ha : i.agent = .receive) (h : exec i s = .next t) :
    t.txq = s.txq ∧ t.fresh = s.fresh := by
  obtain ⟨b, _, rfl⟩ | ⟨f, es, _, rfl⟩ | ⟨es, rfl⟩ := receive_next_cases ha h
  · exact ⟨perform_rxByte_txq b s, rfl⟩
  · exact ⟨rfl, rfl⟩
  · exact ⟨rfl, rfl⟩

theorem capturedBase_eq_or (cls : FrameClass) (f : Frame) (old : NodeId) :
    capturedBase cls f old = baseVal f ∨ capturedBase cls f old = old := by
  unfold capturedBase
  exact ite_eq_or_eq _ _ _

/-- A byte can change BASE_ID only at the end of a frame, to the base value of the frame RXBUF then holds (R136,
R155). -/
theorem perform_rxByte_baseId (b : Byte) (s : State) :
    (s.rxstate = .readingChecksum ∧
        (perform (fun p => rxByte p b) s).baseId = baseVal (frameOf (perform (fun p => rxByte p b) s).rxbuf)) ∨
      (perform (fun p => rxByte p b) s).baseId = s.baseId := by
  cases hst : s.rxstate with
  | awaitSync1 => rw [perform_rxByte_awaitSync1 b hst]; exact .inr rfl
  | awaitSync2 => rw [perform_rxByte_awaitSync2 b hst]; exact .inr rfl
  | readingHeader => rw [perform_rxByte_readingHeader b hst]; exact .inr rfl
  | readingBody => rw [perform_rxByte_readingBody b hst]; exact .inr rfl
  | readingChecksum =>
    by_cases hc : bufChk (s.rxbuf.set s.cursor.toNat b) = b
    · rw [perform_rxByte_readingChecksum_ok hst rfl hc]
      exact (capturedBase_eq_or _ _ _).imp_left fun hcaptured => ⟨rfl, hcaptured⟩
    · rw [perform_rxByte_readingChecksum_bad hst rfl hc]
      exact .inr rfl

/-- The two ways the receive agent captures BASE_ID. -/
theorem receive_baseId_writers {i : Instr} {s t : State} (ha : i.agent = .receive) (h : exec i s = .next t) :
    ((∃ f, i = .rxBaseid f ∧ t.baseId = baseVal f) ∨
        ∃ b, i = .rxb b ∧ s.rxstate = .readingChecksum ∧ t.baseId = baseVal (frameOf t.rxbuf)) ∨
      t.baseId = s.baseId := by
  obtain ⟨b, rfl, rfl⟩ | ⟨f, es, rfl, rfl⟩ | ⟨es, rfl⟩ := receive_next_cases ha h
  · exact (perform_rxByte_baseId b s).imp_left fun hend => .inr ⟨b, rfl, hend⟩
  · exact .inl (.inl ⟨f, rfl, rfl⟩)
  · exact .inr rfl

/-! ## Each piece of state: its writers, or it is as it was -/

theorem rxbuf_wanted_writers {i : Instr} {s t : State} (h : exec i s = .next t) :
    (i = .por ∨ ∃ b, i = .rxb b) ∨ (t.rxbuf = s.rxbuf ∧ t.wanted = s.wanted) := by
  obtain ⟨_, new, e, _, rfl⟩ | ⟨_, cls, f, rfl⟩ | ⟨b, hrxb, _⟩ | ⟨_, e, _, rfl⟩ | ⟨_, rfl⟩ | ⟨hpor, _⟩ :=
    exec_next_cases h
  · exact .inr ⟨rfl, rfl⟩
  · exact .inr ⟨rfl, rfl⟩
  · exact .inl (.inr ⟨b, hrxb⟩)
  · exact .inr ⟨rfl, rfl⟩
  · exact .inr ⟨rfl, rfl⟩
  · exact .inl (.inl hpor)

theorem rxstate_cursor_writers {i : Instr} {s t : State} (h : exec i s = .next t) :
    (i = .por ∨ i = .reopen ∨ ∃ b, i = .rxb b) ∨ (t.rxstate = s.rxstate ∧ t.cursor = s.cursor) := by
  obtain ⟨_, new, e, _, rfl⟩ | ⟨_, cls, f, rfl⟩ | ⟨b, hrxb, _⟩ | ⟨_, e, _, rfl⟩ | ⟨hreopen, _⟩ | ⟨hpor, _⟩ :=
    exec_next_cases h
  · exact .inr ⟨rfl, rfl⟩
  · exact .inr ⟨rfl, rfl⟩
  · exact .inl (.inr (.inr ⟨b, hrxb⟩))
  · exact .inr ⟨rfl, rfl⟩
  · exact .inl (.inr (.inl hreopen))
  · exact .inl (.inl hpor)

theorem baseId_writers {i : Instr} {s t : State} (h : exec i s = .next t) :
    (i = .por ∨ i = .reopen ∨ (∃ f, i = .rxBaseid f ∧ t.baseId = baseVal f) ∨
        ∃ b, i = .rxb b ∧ s.rxstate = .readingChecksum ∧ t.baseId = baseVal (frameOf t.rxbuf)) ∨
      t.baseId = s.baseId := by
  obtain ⟨_, new, e, _, rfl⟩ | ⟨ha, _⟩ | ⟨b, rfl, _⟩ | ⟨_, e, _, rfl⟩ | ⟨hreopen, _⟩ | ⟨hpor, _⟩ := exec_next_cases h
  · exact .inr rfl
  · exact (receive_baseId_writers ha h).imp_left fun hcapture => .inr (.inr hcapture)
  · exact (receive_baseId_writers rfl h).imp_left fun hcapture => .inr (.inr hcapture)
  · exact .inr rfl
  · exact .inl (.inr (.inl hreopen))
  · exact .inl (.inl hpor)

/-- What TXQ may become (R33): a command appends, DRAIN takes the head, POR empties. -/
theorem txq_writers {i : Instr} {s t : State} (h : exec i s = .next t) :
    ((i.agent = .command ∧ ∃ new, t.txq = s.txq ++ new) ∨ (i = .drain ∧ ∃ f, s.txq = f :: t.txq) ∨
        (i = .por ∧ t.txq = [])) ∨
      t.txq = s.txq := by
  obtain ⟨ha, new, e, _, rfl⟩ | ⟨_, cls, f, rfl⟩ | ⟨b, _, rfl⟩ | ⟨hdrain, e, _, rfl⟩ | ⟨_, rfl⟩ | ⟨hpor, rfl⟩ :=
    exec_next_cases h
  · exact .inl (.inl ⟨ha, new, rfl⟩)
  · exact .inr rfl
  · exact .inr (perform_rxByte_txq b s)
  · cases hq : s.txq with
    | nil => exact .inr rfl
    | cons f rest => exact .inl (.inr (.inl ⟨hdrain, f, rfl⟩))
  · exact .inr rfl
  · exact .inl (.inr (.inr ⟨hpor, rfl⟩))

theorem fresh_writers {i : Instr} {s t : State} (h : exec i s = .next t) : i = .por ∨ t.fresh = s.fresh := by
  cases i with
  | por => exact .inl rfl
  | _ => cases h; exact .inr rfl

theorem exec_pending {i : Instr} {s t : State} (h : exec i s = .next t) : t.pending = s.pending := by
  obtain ⟨op, count, hop⟩ := exec_eq_perform i
  rw [hop] at h
  cases h
  rfl

/-! ## The statement -/

/-- Settles O51, from the writers of each piece of state. -/
theorem onlyTheOwnersWrite : Obligations.OnlyTheOwnersWrite := by
  intro i s t h
  refine ⟨?command, fun ha => receive_keeps_txq_fresh ha h,
    fun hne => (rxbuf_wanted_writers h).resolve_right (not_and_or.mpr hne),
    fun hne => (rxstate_cursor_writers h).resolve_right (not_and_or.mpr hne),
    (baseId_writers h).resolve_right, (txq_writers h).resolve_right, (fresh_writers h).resolve_right,
    exec_params h, exec_pending h⟩
  case command =>
    intro ha
    obtain ⟨_, _, _, rfl⟩ := command_next ha h
    rfl

end Sys2Proof.Machine
end

section
/-! Power-on reset (R240), the machine with no operation waiting, and the statements of 70_reset_and_hazards.md about
them (R240, R250). -/

namespace Sys2Proof.Machine

/-! ## No operation waiting (R56) -/

/-- The empty case of the fetch (notes/assumptions/9.md). -/
theorem step_of_pending_nil {s : State} (hp : paramsOk s.params = true) (hq : s.pending = []) :
    step s = .next (idleStep s) := by
  simp [step, fetch, hp, hq]

/-! ## Runs -/

theorem run_succ_of_step_next {M : Host.Core} {s t : M.State} (h : M.step s = .next t) (n : Nat) :
    M.run (n + 1) s = M.run n t := by
  simp only [Host.Core.run, h]

/-- A run from a state that a step leaves as it is stays there. -/
theorem run_of_step_self {M : Host.Core} {s : M.State} (h : M.step s = .next s) (n : Nat) : M.run n s = .next s := by
  induction n with
  | zero => rfl
  | succ n ih => rw [run_succ_of_step_next h, ih]

/-! ## The statements -/

/-- Settles O10: the free values of RXBUF and WANTED are those of this reset's own number
(notes/assumptions/4.md and 5.md). -/
theorem powerOnResetResult : Obligations.PowerOnResetResult := fun s =>
  ⟨Config.porRxbuf s.fresh s.params.rxbufCap, Config.porWanted s.fresh, s.fresh + 1,
    length_porRxbuf s.fresh s.params.rxbufCap, exec_por s⟩

/-- Settles O54: the first step only forgets the events of the operation before it, and every later one finds the state
it leaves. -/
theorem nothingHappensWithoutAnOperation : Obligations.NothingHappensWithoutAnOperation := by
  intro s n hp hq hn
  obtain ⟨k, rfl⟩ := Nat.exists_eq_succ_of_ne_zero hn.ne'
  have hfirst : step s = .next (idleStep s) := step_of_pending_nil hp hq
  have hlater : step (idleStep s) = .next (idleStep s) := step_of_pending_nil (s := idleStep s) hp hq
  exact (run_succ_of_step_next (M := Sys2Proof.core) hfirst k).trans (run_of_step_self (M := Sys2Proof.core) hlater k)

end Sys2Proof.Machine
end

section
/-! The decoder on the word of each instruction, what tells the seven built kinds apart, and the statements of
30_encoding.md about encoded words and words written out (R85, R86, R91, R92, R96). -/

namespace Sys2Proof

open Machine Safety

/-! ## Event words (R91, R92) -/

theorem extractLsb'_setWidth_64 {n : Nat} (x : BitVec n) (h : n ≤ 64 := by decide) :
    (x.setWidth 64).extractLsb' 0 n = x := by
  rw [BitVec.extractLsb'_setWidth_of_le (by omega), BitVec.extractLsb'_eq_self]

theorem decodeEvent_eventWord_rxb (b : Byte) : decodeEvent (eventWord 0x2 (b.setWidth 64)) = .ok (.rxb b) := by
  obtain ⟨_, _, hrxb, _⟩ := eventWordsDecodeByTheirFields (b.setWidth 64)
  rwa [extractLsb'_setWidth_64] at hrxb

theorem decodeEvent_eventWord_teach (id : NodeId) :
    decodeEvent (eventWord 0xC (id.setWidth 64)) = .ok (.teach id) := by
  obtain ⟨_, _, _, _, _, _, _, _, hteach, _⟩ := eventWordsDecodeByTheirFields (id.setWidth 64)
  rwa [extractLsb'_setWidth_64] at hteach

/-- The operands are adjacent fields: each is the lowest field once those below it are skipped. -/
theorem switchPayload_fields (id : NodeId) (unit : Byte) (cmd : Cmd) (level : Byte) (isDimmer : Bool)
    (lastLevel : Byte) :
    let payload := switchPayload id unit cmd level isDimmer lastLevel
    payload.extractLsb' 0 32 = id ∧ payload.extractLsb' 32 8 = lastLevel ∧ payload.extractLsb' 40 8 = level ∧
      payload.extractLsb' 48 8 = unit ∧ payload.extractLsb' 61 1 = BitVec.ofBool isDimmer ∧
      payload.extractLsb' 62 2 = cmdCode cmd := by
  have lowest {u n : Nat} (hi : BitVec u) (x : BitVec n) : (hi ++ x).extractLsb' 0 n = x :=
    BitVec.extractLsb'_append_eq_right
  have skip {u v n start : Nat} {hi : BitVec u} {lo : BitVec v} {x : BitVec n}
      (h : hi.extractLsb' (start - v) n = x) (hv : v ≤ start := by decide) : (hi ++ lo).extractLsb' start n = x :=
    (BitVec.extractLsb'_append_eq_of_le hv).trans h
  exact ⟨lowest _ _, skip (lowest _ _), skip (skip (lowest _ _)), skip (skip (skip (lowest _ _))),
    skip (skip (skip (skip (skip (lowest _ _))))), skip (skip (skip (skip (skip (skip BitVec.extractLsb'_eq_self)))))⟩

theorem decodeEvent_eventWord_switch (id : NodeId) (unit : Byte) (cmd : Cmd) (level : Byte) (isDimmer : Bool)
    (lastLevel : Byte) :
    decodeEvent (eventWord 0xB (switchPayload id unit cmd level isDimmer lastLevel)) =
      .ok (.switch id unit cmd level isDimmer lastLevel) := by
  obtain ⟨hid, hlast, hlevel, hunit, hdimmer, hcmd⟩ := switchPayload_fields id unit cmd level isDimmer lastLevel
  have hbit : (switchPayload id unit cmd level isDimmer lastLevel).getLsbD 61 = isDimmer := by
    rw [← decide_extractLsb'_one, hdimmer]
    cases isDimmer <;> rfl
  refine (decodeEvent_switch _ hcmd).trans ?_
  rw [hid, hlast, hlevel, hunit, hbit]

/-! ## Built frames (R85) -/

/-- The telegram types of the three query kinds. -/
def queryTypes (p : Params) : List Byte := [p.orgRdIdbase, p.orgRdSwVer, p.orgReset]

/-- What the decoder needs of P to tell the seven built kinds apart. -/
structure BuiltKindsDiffer (p : Params) : Prop where
  queries : (queryTypes p).Nodup
  rps : p.orgRps ∉ queryTypes p
  fourBs : p.org4bs ∉ queryTypes p
  fourBs_rps : p.org4bs ≠ p.orgRps
  /-- A teach-in frame has zero where a dim frame has the ramp byte. -/
  ramp : p.dimRamp ≠ 0

theorem builtKindsDiffer_defaultParams : BuiltKindsDiffer defaultParams :=
  ⟨by decide, by decide, by decide, by decide, by decide⟩

theorem ne_queryFrame {p : Params} {f : Frame} {t : Byte} (h : f[3] ≠ t) : f ≠ queryFrame p t := by
  rintro rfl
  exact h (by rw [queryFrame_zeroPayload]; rfl)

theorem queryFrame_ne {p : Params} {t u : Byte} (h : t ≠ u) : queryFrame p t ≠ queryFrame p u :=
  ne_queryFrame (by rw [queryFrame_zeroPayload]; exact h)

theorem decodeBuilt_queryFrames {p : Params} (hp : BuiltKindsDiffer p) :
    decodeBuilt p (queryFrame p p.orgRdIdbase) = .ok .fRdIdbase ∧
      decodeBuilt p (queryFrame p p.orgRdSwVer) = .ok .fRdSwVer ∧
      decodeBuilt p (queryFrame p p.orgReset) = .ok .fReset := by
  have hqueries := hp.queries
  simp only [queryTypes, List.nodup_cons, List.mem_cons, List.not_mem_nil, or_false, not_or] at hqueries
  obtain ⟨⟨hidVer, hidReset⟩, hverReset, _⟩ := hqueries
  refine ⟨?idbase, ?swVer, ?reset⟩
  case idbase => rw [decodeBuilt, if_pos rfl]
  case swVer => rw [decodeBuilt, if_neg (queryFrame_ne (Ne.symm hidVer)), if_pos rfl]
  case reset =>
    rw [decodeBuilt, if_neg (queryFrame_ne (Ne.symm hidReset)), if_neg (queryFrame_ne (Ne.symm hverReset)), if_pos rfl]

/-- A frame of SWITCH or TEACH is decoded by its type, data and status bytes alone. -/
theorem decodeBuilt_sealedRadioFrame {p : Params} {org : Byte} (horg : org ∉ queryTypes p) (d3 d2 d1 d0 : Byte)
    (id : NodeId) (st : Byte) :
    decodeBuilt p (sealedRadioFrame p org d3 d2 d1 d0 id st) =
      if org = p.orgRps ∧ (d2 = 0 ∧ d1 = 0 ∧ d0 = 0) ∧ d3 &&& 0x1F = 0x10 ∧ st = p.statusPress then
        .ok (.fRpsPress (rpsUnpack d3).rid (rpsUnpack d3).ud id)
      else if org = p.orgRps ∧ (d2 = 0 ∧ d1 = 0 ∧ d0 = 0) ∧ d3 &&& 0x3F = 0 ∧ st = p.statusRelease then
        .ok (.fRpsRelease (rpsUnpack d3).rid id)
      else if org = p.org4bs ∧ d3 = p.dimMarker ∧ d1 = p.dimRamp ∧ (d0 = p.dimOn ∨ d0 = p.dimOff) ∧
          st = p.status4bs then
        .ok (.f4bsDim d2 id)
      else if org = p.org4bs ∧ d3 = p.dimMarker ∧ (d2 = 0 ∧ d1 = 0 ∧ d0 = 0) ∧ st = p.status4bs then
        .ok (.f4bsTeach id)
      else .error .noBuiltKind := by
  obtain ⟨h0, h1, h2, h3, h4, h5, h6, h7, h12⟩ := sealedRadioFrame_bytes p org d3 d2 d1 d0 id st
  simp only [queryTypes, List.mem_cons, List.not_mem_nil, or_false, not_or] at horg
  obtain ⟨hidbase, hswVer, hreset⟩ := horg
  rw [decodeBuilt, if_neg (ne_queryFrame (h3 ▸ hidbase)), if_neg (ne_queryFrame (h3 ▸ hswVer)),
    if_neg (ne_queryFrame (h3 ▸ hreset))]
  simp only [Bool.and_eq_true, Bool.or_eq_true, decide_eq_true_eq, hasRadioHead_iff, restZero_iff, h0, h1, h2, h3, h4,
    h5, h6, h7, h12, nodeId_sealedRadioFrame, true_and, and_assoc]

/-- The mask of a press frame finds the bit "pressed" set (R79). -/
theorem rpsPack_press_and_mask (rid : BitVec 2) (ud : BitVec 1) : rpsPack rid ud 1 &&& 0x1F = 0x10 := by
  revert rid ud
  decide

/-- The mask of a release frame leaves the rocker index out, and that of a press frame finds the bit "pressed" clear
(R79). -/
theorem rpsPack_release_and_mask (rid : BitVec 2) :
    rpsPack rid 0 0 &&& 0x3F = 0 ∧ rpsPack rid 0 0 &&& 0x1F ≠ 0x10 := by
  revert rid
  decide

theorem dimFlag_eq_or (p : Params) (pct : Byte) : dimFlag p pct = p.dimOn ∨ dimFlag p pct = p.dimOff := by
  unfold dimFlag
  split
  · exact .inr rfl
  · exact .inl rfl

section
variable {p : Params} (hp : BuiltKindsDiffer p)
include hp

theorem decodeBuilt_rpsPressFrame (rid : BitVec 2) (ud : BitVec 1) (id : NodeId) :
    decodeBuilt p (rpsPressFrame p rid ud id) = .ok (.fRpsPress rid ud id) := by
  rw [rpsPressFrame_sealed, decodeBuilt_sealedRadioFrame hp.rps, rpsUnpack_rpsPack, if_pos]
  exact ⟨rfl, ⟨rfl, rfl, rfl⟩, rpsPack_press_and_mask rid ud, rfl⟩

/-- The bit "pressed" tells a release frame from a press frame (R178). -/
theorem decodeBuilt_rpsReleaseFrame (rid : BitVec 2) (id : NodeId) :
    decodeBuilt p (rpsReleaseFrame p rid id) = .ok (.fRpsRelease rid id) := by
  obtain ⟨hrelease, hnotPress⟩ := rpsPack_release_and_mask rid
  rw [rpsReleaseFrame_sealed, decodeBuilt_sealedRadioFrame hp.rps, rpsUnpack_rpsPack,
    if_neg fun ⟨_, _, hpress, _⟩ => hnotPress hpress, if_pos]
  exact ⟨rfl, ⟨rfl, rfl, rfl⟩, hrelease, rfl⟩

theorem decodeBuilt_dimFrame (pct : Byte) (id : NodeId) :
    decodeBuilt p (dimFrame p pct id) = .ok (.f4bsDim pct id) := by
  rw [dimFrame_sealed, decodeBuilt_sealedRadioFrame hp.fourBs, if_neg fun ⟨h, _⟩ => hp.fourBs_rps h,
    if_neg fun ⟨h, _⟩ => hp.fourBs_rps h, if_pos]
  exact ⟨rfl, rfl, rfl, dimFlag_eq_or p pct, rfl⟩

/-- The ramp byte tells a teach-in frame from a dim frame (R179, R181). -/
theorem decodeBuilt_teachFrame (id : NodeId) : decodeBuilt p (teachFrame p id) = .ok (.f4bsTeach id) := by
  rw [teachFrame_sealed, decodeBuilt_sealedRadioFrame hp.fourBs, if_neg fun ⟨h, _⟩ => hp.fourBs_rps h,
    if_neg fun ⟨h, _⟩ => hp.fourBs_rps h, if_neg fun ⟨_, _, hramp, _⟩ => hp.ramp hramp.symm, if_pos]
  exact ⟨rfl, rfl, ⟨rfl, rfl, rfl⟩, rfl⟩

end

/-! ## Every instruction -/

theorem decode_built_wordOfFrame {p : Params} {f : Frame} {i : Instr} (h : decodeBuilt p f = .ok i) :
    decode p (.built (wordOfFrame f)) = .ok i := by
  rw [decode, frameOfWord_wordOfFrame, h]

theorem decode_received_wordOfFrame (p : Params) (f : Frame) :
    decode p (.received (wordOfFrame f)) = .ok (decodeReceived p f) := by
  rw [decode, frameOfWord_wordOfFrame]

/-- Decoding inverts encoding under every P that tells the built kinds apart. -/
theorem decode_encode {p : Params} {i : Instr} (hp : BuiltKindsDiffer p) (hi : i.wellFormed p = true) :
    decode p (encode p i) = .ok i := by
  obtain ⟨hrdIdbase, hrdSwVer, hreset⟩ := decodeBuilt_queryFrames hp
  obtain ⟨hpor, hreopen, _, hdrain, hqbase, hqver, hqreset, _⟩ := eventWordsDecodeByTheirFields 0
  cases i with
  | fRdIdbase => exact decode_built_wordOfFrame hrdIdbase
  | fRdSwVer => exact decode_built_wordOfFrame hrdSwVer
  | fReset => exact decode_built_wordOfFrame hreset
  | fRpsPress rid ud id => exact decode_built_wordOfFrame (decodeBuilt_rpsPressFrame hp rid ud id)
  | fRpsRelease rid id => exact decode_built_wordOfFrame (decodeBuilt_rpsReleaseFrame hp rid id)
  | f4bsDim pct id => exact decode_built_wordOfFrame (decodeBuilt_dimFrame hp pct id)
  | f4bsTeach id => exact decode_built_wordOfFrame (decodeBuilt_teachFrame hp id)
  | rxAckIdBaseOk f | rxAckNotWantedAck f | rxAckNotAck f | rxAckDuplicateId f | rxAckErrHeaderSeq f
  | rxAckErrLength f | rxAckErrChecksum f | rxAckErrType f | rxAckErrTxIdrange f | rxAckErrIdrange f
  | rxAckUnknown f | rxBaseid f | rxRps f | rx4bs f | rxOther f =>
    have hclass := of_decide_eq_true hi
    rw [encode, decode_received_wordOfFrame, decodeReceived, hclass]
  | por => exact hpor
  | reopen => exact hreopen
  | rxb b => exact decodeEvent_eventWord_rxb b
  | drain => exact hdrain
  | qbase => exact hqbase
  | qver => exact hqver
  | qreset => exact hqreset
  | switch id unit cmd level isDimmer lastLevel =>
    exact decodeEvent_eventWord_switch id unit cmd level isDimmer lastLevel
  | teach id => exact decodeEvent_eventWord_teach id

/-! ## The statements -/

/-- Settles O5: the default P tells the built kinds apart. -/
theorem encodedInstructionsDecodeBack : Obligations.EncodedInstructionsDecodeBack := fun _ =>
  decode_encode builtKindsDiffer_defaultParams

/-- Settles O8, each word by evaluating the decoder on it. -/
theorem writtenWordsDecode : Obligations.WrittenWordsDecode := by
  refine ⟨?switch, ?rxb, ?rdIdbase, ?rpsPress, ?reservedOp, ?baseId⟩
  all_goals decide

end Sys2Proof
end
